-- ==== Sys2Proof/Word.lean ====
section
/-! DEFINITION. The widths of NCF16 (`00_scope.md` R3, R6): every value is unsigned, bit 0 is the least significant bit. -/

namespace Sys2Proof

/-- An octet, 8 bits. -/
abbrev Octet := BitVec 8

/-- A nibble, 4 bits. -/
abbrev Nibble := BitVec 4

/-- A word, 16 bits. -/
abbrev Word := BitVec 16

/-- A command word of format `OPW`, 48 bits (`30_encoding.md` R50). -/
abbrev CmdWord := BitVec 48

/-- A response word of format `RSPW`, 19 bits (`30_encoding.md` R51). -/
abbrev Response := BitVec 19

end Sys2Proof
end

