-- ==== Sys2Proof/Machine/Codec.lean ====
section
/-! DEFINITION. The word codec (`40_word_codec.md` R65, R66), in either direction. -/

namespace Sys2Proof.Machine

/-- `w2b(w) = [w[7:0], w[15:8]]`: the least significant octet comes first (R65). -/
def w2b (w : Word) : List Octet := [w.extractLsb' 0 8, w.extractLsb' 8 8]

/-- `b2w(lsb, msb) = lsb + (msb << 8)` (R66). -/
def b2w (lsb msb : Octet) : Word := msb ++ lsb

end Sys2Proof.Machine
end

