-- ==== Sys2Proof/Machine/Codes.lean ====
section
/-! DEFINITION. The values of the unit state registers, error fields and refusal reasons, with their numbers
(`10_state.md` R15 to R20, `60_exceptions.md` R130, R136). DESIGN CHOICE (log 17, safe): each type holds exactly the values
its field takes, as V4 allows. -/

namespace Sys2Proof.Machine

/-- `TXS` (R15). -/
inductive TxState
  | idle
  | data
  deriving DecidableEq, Repr

/-- `RXS` (R16). -/
inductive RxState
  | idle
  | recv
  | ok
  | err
  deriving DecidableEq, Repr

/-- `XDS` (R17). -/
inductive XdState
  | none
  | ok
  | err
  deriving DecidableEq, Repr

/-- The protocol errors `RX.END` finds (R130). `RXERR` is one of them or nothing (R18). -/
inductive FrameError
  | frameLengthMismatch
  | frameChecksumMismatch
  deriving DecidableEq, Repr

/-- The protocol errors `XD.CHECK` finds (R130). `XDERR` is one of them or nothing (R19). -/
inductive DcbError
  | unexpectedOpcode
  | unexpectedStart
  | invalidPin
  | innerLengthMismatch
  | redundantLengthMismatch
  deriving DecidableEq, Repr

/-- The reasons for a refusal (R136). `REFCODE` is one of them or nothing (R20). -/
inductive Reason
  | illegal
  | state
  | range
  deriving DecidableEq, Repr

def TxState.code : TxState → BitVec 1
  | .idle => 0
  | .data => 1

def RxState.code : RxState → BitVec 2
  | .idle => 0
  | .recv => 1
  | .ok => 2
  | .err => 3

def XdState.code : XdState → BitVec 2
  | .none => 0
  | .ok => 1
  | .err => 2

def FrameError.code : FrameError → BitVec 4
  | .frameLengthMismatch => 1
  | .frameChecksumMismatch => 2

def DcbError.code : DcbError → BitVec 4
  | .unexpectedOpcode => 3
  | .unexpectedStart => 4
  | .invalidPin => 5
  | .innerLengthMismatch => 6
  | .redundantLengthMismatch => 7

def Reason.code : Reason → BitVec 2
  | .illegal => 1
  | .state => 2
  | .range => 3

/-- The field `RXERR`: 0 for no error (R18). -/
def rxerrCode : Option FrameError → BitVec 4
  | none => 0
  | some e => e.code

/-- The field `XDERR`: 0 for no error (R19). -/
def xderrCode : Option DcbError → BitVec 4
  | none => 0
  | some e => e.code

/-- The field `REFCODE`: 0 for no refusal yet (R20). -/
def refcodeCode : Option Reason → BitVec 2
  | none => 0
  | some r => r.code

end Sys2Proof.Machine
end

