-- ==== Sys2Proof/Config.lean ====
section
/-! DEFINITION. The three named parameters of the block (`00_scope.md` R2), and the one value the spec leaves free. -/

namespace Sys2Proof

/-- `RX_HDR`: octets of a received frame before its data, 3 or 5 and no other value (`00_scope.md` R2, V16). -/
inductive RxHdr
  | three
  | five
  deriving DecidableEq, Repr

/-- `RED_ORDER`: octet order of the redundant length, `LE` or `BE` (`00_scope.md` R2, V16). -/
inductive RedOrder
  | le
  | be
  deriving DecidableEq, Repr

/-- The configuration, fixed for the life of the block (`10_state.md` R24).
DESIGN CHOICE (log 3, safe): it stands in `State`, so that a statement over all states is one for every configuration. -/
structure Config where
  /-- `TABLE[0..15]`, sixteen words of 16 bits (`41_checksum.md` R71). -/
  table : Vector Word 16
  rxHdr : RxHdr
  redOrder : RedOrder
  deriving DecidableEq, Repr

/-- What cell `i` of `RXBUF` holds while no `RX.OCT` has written it since reset number `epoch`: unspecified
(`70_reset_and_hazards.md` R150; `93_implementation_defined.md` V5, V6: any value). A free value (log 7, safe). -/
opaque Config.rxbufUnspecified (epoch i : Nat) : Octet

end Sys2Proof
end

