-- ==== Sys2Proof/Machine/Params.lean ====
section
/-! DEFINITION. The default values of the parameters (`00_scope.md` R2). -/

namespace Sys2Proof.Machine

/-- The default `TABLE` (`41_checksum.md` R71). PRESUMED (log 4, unsafe): 'from general knowledge, not in source' (G1). -/
def defaultTable : Vector Word 16 :=
  #v[0x0000, 0x1021, 0x2042, 0x3063, 0x4084, 0x50A5, 0x60C6, 0x70E7,
     0x8108, 0x9129, 0xA14A, 0xB16B, 0xC18C, 0xD1AD, 0xE1CE, 0xF1EF]

/-- The default configuration: `RX_HDR = 3` (log 5), `RED_ORDER = LE` (log 6). -/
def defaultConfig : Config := { table := defaultTable, rxHdr := .three, redOrder := .le }

/-- `RX_HDR` as a number of octets. -/
def hdrSize : RxHdr → Nat
  | .three => 3
  | .five => 5

end Sys2Proof.Machine
end

