-- ==== Sys2Proof/Machine/Frames.lean ====
section
/-! DEFINITION. The pure functions on octet sequences, which are normative (`00_scope.md` R4): the checksum
(`41_checksum.md` R70 to R73), `build` (`42_frame_build.md` R80), `parse` (`43_frame_parse.md` R90), and the functions of the
read-DCB exchange (`44_read_dcb_exchange.md` R105, R107). -/

namespace Sys2Proof.Machine

/-! ## The checksum -/

/-- `nib_step(a, n) = ((a << 4) & 0xFFFF) ^ TABLE[(a >> 12) ^ n]` (R70). -/
def nibStep (table : Vector Word 16) (a : Word) (n : Nibble) : Word :=
  (a <<< 4) ^^^ table[(a.extractLsb' 12 4 ^^^ n).toNat]'(BitVec.isLt _)

/-- Two nibble steps, the high nibble first (R72). -/
def octStep (table : Vector Word 16) (a : Word) (b : Octet) : Word :=
  nibStep table (nibStep table a (b.extractLsb' 4 4)) (b.extractLsb' 0 4)

/-- `csum_from(a, s)`: the left fold of `oct_step` over `s` from `a` (R73). -/
def csumFrom (table : Vector Word 16) (a : Word) (s : List Octet) : Word := s.foldl (octStep table) a

/-- `csum(s) = csum_from(0xFFFF, s)` (R73). -/
def csum (table : Vector Word 16) (s : List Octet) : Word := csumFrom table 0xFFFF s

/-- One step of the bitwise polynomial division by generator 0x1021, most significant bit first (R79). -/
def bitStep (a : Word) (b : Bool) : Word :=
  if a.msb != b then (a <<< 1) ^^^ 0x1021 else a <<< 1

/-- Four bit steps over a nibble, most significant bit first (R79). -/
def nibbleDivision (a : Word) (n : Nibble) : Word :=
  [n.getLsbD 3, n.getLsbD 2, n.getLsbD 1, n.getLsbD 0].foldl bitStep a

/-! ## The command frame -/

/-- The first five octets of a command frame: opcode, length, pin (R80). -/
def frameHeader (opc : Octet) (length pin : Word) : List Octet := [opc] ++ w2b length ++ w2b pin

/-- `build(opc, pin, data)` (R80), for at most 65528 octets of data, where `7 + len(data)` fits 16 bits. Beyond that the spec
leaves it undefined (R82). DESIGN CHOICE (log 20): there the length field is `7 + len(data)` modulo 2^16. -/
def build (table : Vector Word 16) (opc : Octet) (pin : Word) (data : List Octet) : List Octet :=
  let head := frameHeader opc (BitVec.ofNat 16 (7 + data.length)) pin ++ data
  head ++ w2b (csum table head)

/-- The four data octets of a read-DCB request, the words 0x0000 and 0xFFFF (R105). -/
def readDcbData : List Octet := [0x00, 0x00, 0xFF, 0xFF]

/-- `read_dcb_request(pin) = build(0x93, pin, 00 00 FF FF)` (R105). -/
def readDcbRequest (table : Vector Word 16) (pin : Word) : List Octet := build table 0x93 pin readDcbData

/-! ## The response frame -/

/-- Octet `i` of a sequence; every use is below its length. -/
def octetAt (s : List Octet) (i : Nat) : Octet := s.getD i 0

/-- `parse(s)`: an error, or the opcode and the data (R90 to R92). -/
def parse (cfg : Config) (s : List Octet) : Except FrameError (Octet × List Octet) :=
  let n := s.length
  if n < hdrSize cfg.rxHdr + 2 then .error .frameLengthMismatch
  else if (b2w (octetAt s 1) (octetAt s 2)).toNat ≠ n then .error .frameLengthMismatch
  else if csum cfg.table (s.take (n - 2)) ≠ b2w (octetAt s (n - 2)) (octetAt s (n - 1)) then
    .error .frameChecksumMismatch
  else .ok (octetAt s 0, (s.take (n - 2)).drop (hdrSize cfg.rxHdr))

/-! ## The read-DCB response -/

/-- The redundant length from the octets at data offsets 4 and 5 (R107, `30_encoding.md` R49). -/
def redLength (order : RedOrder) (x y : Octet) : Word :=
  match order with
  | .le => b2w x y
  | .be => b2w y x

/-- The checks of `check_dcb` in the order of R107, on `len` octets of data of which `d i` is octet `i`; the first that fails
decides the error, and a field not wholly present fails its own check (R109). -/
def dcbCheck (order : RedOrder) (opcode : Octet) (len : Nat) (d : Nat → Octet) : Option DcbError :=
  if opcode ≠ 0x94 then some .unexpectedOpcode
  else if len < 2 ∨ b2w (d 0) (d 1) ≠ 0 then some .unexpectedStart
  else if len < 4 then some .innerLengthMismatch
  else if b2w (d 2) (d 3) = 0 then some .invalidPin
  else if (b2w (d 2) (d 3)).toNat + 4 ≠ len then some .innerLengthMismatch
  else if len < 6 ∨ (redLength order (d 4) (d 5)).toNat ≠ len - 4 then some .redundantLengthMismatch
  else none

/-- `check_dcb(opcode, data)`: an error, or RawDCB, the data from offset 4 onward (R107, R108). -/
def checkDcb (order : RedOrder) (opcode : Octet) (data : List Octet) : Except DcbError (List Octet) :=
  match dcbCheck order opcode data.length (octetAt data) with
  | some e => .error e
  | none => .ok (data.drop 4)

end Sys2Proof.Machine
end

