-- ==== Sys2Proof/Syntax.lean ====
section
/-! DEFINITION. The instructions of NCF16: one constructor for each row of `spec/opcode_table.json`. -/

namespace Sys2Proof

/-- The fourteen operations of `30_encoding.md` R53 and the two wire frame types of R47 in their role as
pseudo-operations (R58). -/
inductive Instr
  /-- `NOP` (`45_system.md` R120). -/
  | nop
  /-- `CS.INIT` (`41_checksum.md` R74). -/
  | csInit
  /-- `CS.NIB n` (`41_checksum.md` R75). -/
  | csNib (n : Nibble)
  /-- `CS.OCT b` (`41_checksum.md` R76). -/
  | csOct (b : Octet)
  /-- `TX.START opc, pin, dlen` (`42_frame_build.md` R81). -/
  | txStart (opc : Octet) (pin : Word) (dlen : Word)
  /-- `TX.DATA b` (`42_frame_build.md` R83). -/
  | txData (b : Octet)
  /-- `RX.START` (`43_frame_parse.md` R93). -/
  | rxStart
  /-- `RX.OCT b` (`43_frame_parse.md` R95). -/
  | rxOct (b : Octet)
  /-- `RX.END` (`43_frame_parse.md` R96). -/
  | rxEnd
  /-- `RX.RD i` (`43_frame_parse.md` R97). -/
  | rxRd (i : Word)
  /-- `XD.CHECK` (`44_read_dcb_exchange.md` R110). -/
  | xdCheck
  /-- `XD.RD i` (`44_read_dcb_exchange.md` R111). -/
  | xdRd (i : Word)
  /-- `REG.RD r` (`45_system.md` R121). -/
  | regRd (r : Octet)
  /-- `BLK.RESET` (`45_system.md` R122). -/
  | blkReset
  /-- Wire frame 0x93 to be sent: `XD.REQ pin` (`44_read_dcb_exchange.md` R105, `30_encoding.md` R58). `sum` is the checksum
  field of the frame as given, which the block makes itself and does not read (log 12). -/
  | readDcbRequest (pin sum : Word)
  /-- Wire frame 0x94 as received, all its octets: `XD.RSP [b0 ... bk]` (`44_read_dcb_exchange.md` R107,
  `30_encoding.md` R58; log 13). -/
  | readDcbResponse (octets : List Octet)
  deriving DecidableEq, Repr

/-- What the host gives the block, one item after another (log 1). -/
inductive PortItem
  /-- One 48-bit command word (`30_encoding.md` R50). -/
  | word (w : CmdWord)
  /-- The octets of a wire frame, given as the pseudo-operation of its type (`30_encoding.md` R58; log 12, log 13). -/
  | frame (octets : List Octet)
  /-- The hardware reset event, which has no command word (`30_encoding.md` R53, `70_reset_and_hazards.md` R151). -/
  | hwReset
  deriving DecidableEq, Repr

end Sys2Proof
end

