-- ==== Sys2Proof/WellFormed.lean ====
section
/-! DEFINITION. Which terms of `Instr` are instructions. Every operand but one has its own width as its type, so the one
check left is that a read-DCB response begins with its opcode. -/

namespace Sys2Proof

/-- `READ_DCB_RESPONSE` is the row with first octet 0x94 (`30_encoding.md` R47). Nothing else of its octets is required:
the RX unit judges them (`43_frame_parse.md` R96). -/
def Instr.wf : Instr → Bool
  | .nop => true
  | .csInit => true
  | .csNib _ => true
  | .csOct _ => true
  | .txStart _ _ _ => true
  | .txData _ => true
  | .rxStart => true
  | .rxOct _ => true
  | .rxEnd => true
  | .rxRd _ => true
  | .xdCheck => true
  | .xdRd _ => true
  | .regRd _ => true
  | .blkReset => true
  | .readDcbRequest _ _ => true
  | .readDcbResponse octets => octets.head? == some 0x94

end Sys2Proof
end

