-- ==== Sys2Proof/Decode.lean ====
section
/-! DEFINITION. Decoding, total on every command word and every octet sequence, and the encoder
(`30_encoding.md` R50 to R55; `44_read_dcb_exchange.md` R105, R107). -/

namespace Sys2Proof

/-! ## The fields of a command word (`30_encoding.md` R50) -/

def opField (w : CmdWord) : Nibble := w.extractLsb' 44 4
def zField (w : CmdWord) : Nibble := w.extractLsb' 40 4
def a8Field (w : CmdWord) : Octet := w.extractLsb' 32 8
def b16Field (w : CmdWord) : Word := w.extractLsb' 16 16
def c16Field (w : CmdWord) : Word := w.extractLsb' 0 16

/-- A command word from its fields; the field `Z` is 0 (R50). -/
def opw (op : Nibble) (a8 : Octet) (b16 c16 : Word) : CmdWord :=
  op ++ (0 : Nibble) ++ a8 ++ b16 ++ c16

/-- `i` where the fields that R53 marks `-` are zero, else nothing (R55). -/
def whenZero (unused : Bool) (i : Instr) : Option Instr := if unused then some i else none

/-- The operation a command word stands for, by the table of R53; `none` for an illegal word (R54). -/
def decodeWord (w : CmdWord) : Option Instr :=
  let a8 := a8Field w
  let b16 := b16Field w
  let c16 := c16Field w
  if zField w ≠ 0 then none
  else match (opField w).toNat with
    | 0x0 => whenZero (a8 == 0 && b16 == 0 && c16 == 0) .nop
    | 0x1 => whenZero (a8 == 0 && b16 == 0 && c16 == 0) .csInit
    | 0x2 => whenZero (a8.extractLsb' 4 4 == 0 && b16 == 0 && c16 == 0) (.csNib (a8.extractLsb' 0 4))
    | 0x3 => whenZero (b16 == 0 && c16 == 0) (.csOct a8)
    | 0x4 => some (.txStart a8 b16 c16)
    | 0x5 => whenZero (b16 == 0 && c16 == 0) (.txData a8)
    | 0x7 => whenZero (a8 == 0 && b16 == 0 && c16 == 0) .rxStart
    | 0x8 => whenZero (b16 == 0 && c16 == 0) (.rxOct a8)
    | 0x9 => whenZero (a8 == 0 && b16 == 0 && c16 == 0) .rxEnd
    | 0xA => whenZero (a8 == 0 && c16 == 0) (.rxRd b16)
    | 0xB => whenZero (a8 == 0 && b16 == 0 && c16 == 0) .xdCheck
    | 0xC => whenZero (a8 == 0 && c16 == 0) (.xdRd b16)
    | 0xD => whenZero (b16 == 0 && c16 == 0) (.regRd a8)
    | 0xE => whenZero (a8 == 0 && b16 == 0 && c16 == 0) .blkReset
    | _ => none

/-- The eleven octets of a read-DCB request frame of R105: its pin and its checksum field, the rest fixed. -/
def requestFrame (pin sum : Word) : List Octet :=
  [0x93, 0x0B, 0x00] ++ Machine.w2b pin ++ [0x00, 0x00, 0xFF, 0xFF] ++ Machine.w2b sum

/-- The frame type of an octet sequence, by its first octet as the table has it (`30_encoding.md` R47); a request must have
every octet of its format (R105), while a response is taken as received and judged by the RX unit. -/
def decodeFrame (octets : List Octet) : Option Instr :=
  if octets.head? = some 0x94 then some (.readDcbResponse octets)
  else
    let pin := Machine.b2w (octets.getD 3 0) (octets.getD 4 0)
    let sum := Machine.b2w (octets.getD 9 0) (octets.getD 10 0)
    if octets = requestFrame pin sum then some (.readDcbRequest pin sum) else none

/-- The instruction an item stands for; `none` for an illegal one, and for the reset event, which is no operation. -/
def decode : PortItem → Option Instr
  | .word w => decodeWord w
  | .frame octets => decodeFrame octets
  | .hwReset => none

/-! ## The encoder -/

/-- The item of an instruction, written from R53 and, for the wire frames, from R105 and R107. -/
def encode : Instr → PortItem
  | .nop => .word (opw 0x0 0 0 0)
  | .csInit => .word (opw 0x1 0 0 0)
  | .csNib n => .word (opw 0x2 ((0 : Nibble) ++ n) 0 0)
  | .csOct b => .word (opw 0x3 b 0 0)
  | .txStart opc pin dlen => .word (opw 0x4 opc pin dlen)
  | .txData b => .word (opw 0x5 b 0 0)
  | .rxStart => .word (opw 0x7 0 0 0)
  | .rxOct b => .word (opw 0x8 b 0 0)
  | .rxEnd => .word (opw 0x9 0 0 0)
  | .rxRd i => .word (opw 0xA 0 i 0)
  | .xdCheck => .word (opw 0xB 0 0 0)
  | .xdRd i => .word (opw 0xC 0 i 0)
  | .regRd r => .word (opw 0xD r 0 0)
  | .blkReset => .word (opw 0xE 0 0 0)
  | .readDcbRequest pin sum => .frame (requestFrame pin sum)
  | .readDcbResponse octets => .frame octets

/-! ## The operation table of R53, as masks -/

/-- A row of R53: a word `w` is the row's when `w &&& mask = pattern`. -/
structure OpRow where
  mnemonic : String
  pattern : CmdWord
  mask : CmdWord
  deriving DecidableEq, Repr

def OpRow.selects (r : OpRow) (w : CmdWord) : Bool := w &&& r.mask == r.pattern

/-- The fourteen rows of R53. -/
def opRows : List OpRow :=
  [⟨"NOP", 0x000000000000, 0xFFFFFFFFFFFF⟩, ⟨"CS.INIT", 0x100000000000, 0xFFFFFFFFFFFF⟩,
   ⟨"CS.NIB", 0x200000000000, 0xFFF0FFFFFFFF⟩, ⟨"CS.OCT", 0x300000000000, 0xFF00FFFFFFFF⟩,
   ⟨"TX.START", 0x400000000000, 0xFF0000000000⟩, ⟨"TX.DATA", 0x500000000000, 0xFF00FFFFFFFF⟩,
   ⟨"RX.START", 0x700000000000, 0xFFFFFFFFFFFF⟩, ⟨"RX.OCT", 0x800000000000, 0xFF00FFFFFFFF⟩,
   ⟨"RX.END", 0x900000000000, 0xFFFFFFFFFFFF⟩, ⟨"RX.RD", 0xA00000000000, 0xFFFF0000FFFF⟩,
   ⟨"XD.CHECK", 0xB00000000000, 0xFFFFFFFFFFFF⟩, ⟨"XD.RD", 0xC00000000000, 0xFFFF0000FFFF⟩,
   ⟨"REG.RD", 0xD00000000000, 0xFF00FFFFFFFF⟩, ⟨"BLK.RESET", 0xE00000000000, 0xFFFFFFFFFFFF⟩]

/-- The mnemonic of an instruction, as `spec/opcode_table.json` spells it. -/
def Instr.mnemonic : Instr → String
  | .nop => "NOP"
  | .csInit => "CS.INIT"
  | .csNib _ => "CS.NIB"
  | .csOct _ => "CS.OCT"
  | .txStart _ _ _ => "TX.START"
  | .txData _ => "TX.DATA"
  | .rxStart => "RX.START"
  | .rxOct _ => "RX.OCT"
  | .rxEnd => "RX.END"
  | .rxRd _ => "RX.RD"
  | .xdCheck => "XD.CHECK"
  | .xdRd _ => "XD.RD"
  | .regRd _ => "REG.RD"
  | .blkReset => "BLK.RESET"
  | .readDcbRequest _ _ => "READ_DCB_REQUEST"
  | .readDcbResponse _ => "READ_DCB_RESPONSE"

/-! ## The table's numbering of bits -/

/-- The `n` octets of `w`, the least significant first. -/
def tableOctets (n w : Nat) : List Octet :=
  (List.range n).map fun k => BitVec.ofNat 8 (w >>> (8 * k))

/-- The item of a table row of `nbits` bits that reads `w`: 48 bits are a command word; any other number is a wire frame,
whose first octet is bits 7 to 0 (log 15). A request frame of which the table gives only the first octets is completed with
the fixed octets of its format, a pin of 0 and a checksum field of 0. -/
def tableItem (nbits w : Nat) : PortItem :=
  if nbits = 48 then .word (BitVec.ofNat 48 w)
  else
    let octets := tableOctets (nbits / 8) w
    if octets.head? = some 0x93 then .frame (octets ++ (requestFrame 0 0).drop octets.length) else .frame octets

/-- The instruction the decoder reads from a table row of `nbits` bits that reads `w`. -/
def decodeTableWord (nbits w : Nat) : Option Instr := decode (tableItem nbits w)

end Sys2Proof
end

