-- ==== Sys2Proof/Machine/State.lean ====
section
/-! DEFINITION. The state of the block (`10_state.md`), the ways a step of the model can stop, and the state after reset. -/

namespace Sys2Proof.Machine

/-- The model's own faults. The block never faults (`60_exceptions.md` R142); both stand only in states that `10_state.md`
R25 rules out. -/
inductive Fault
  /-- Raised by `RX.RD` and `XD.RD` when the window reaches past cell 65534 of `RXBUF`, a cell that does not exist
  (`20_memory.md` R30). Safe; R25 (d) rules it out (log 8). -/
  | noSuchCell (index : Nat)
  /-- Raised by `TX.DATA` in `T_DATA` with `TXREM = 0`, where `TXREM - 1` is no natural (`00_scope.md` R6). Safe; R25 (a)
  rules it out (log 9). -/
  | nothingOwed
  deriving DecidableEq, Repr

/-- The model's own refusals. A refusal of the BLOCK (`60_exceptions.md` R137) is no refusal of the model: it is a next
state. -/
inductive Refusal
  /-- Raised by `exec` for an instruction that has no meaning yet. Safe; no arm raises it. -/
  | notModelled (mnemonic : String)
  deriving DecidableEq, Repr

/-- `RXBUF` (`20_memory.md` R30): the cells written since reset, addresses strictly rising. An unlisted cell holds no value
that the spec states (log 7). -/
abbrev Memory := List Host.Cell

/-- One pair of the transmit stream (`20_memory.md` R34). -/
structure TxPair where
  octet : Octet
  last : Bool
  deriving DecidableEq, Repr

structure State where
  /-- `TABLE`, `RX_HDR`, `RED_ORDER` (`00_scope.md` R2; log 3). -/
  cfg : Config
  /-- `ACC` (R11). -/
  acc : Word
  /-- `TXS` (R15). -/
  txs : TxState
  /-- `TXACC` (R12). -/
  txacc : Word
  /-- `TXREM` (R12). -/
  txrem : Word
  /-- `RXS` (R16). -/
  rxs : RxState
  /-- `RXCNT`, 17 bits (R12). -/
  rxcnt : BitVec 17
  /-- `RXOPC` (R12). -/
  rxopc : Octet
  /-- `RXLEN` (R12). -/
  rxlen : Word
  /-- `RXSUM` (R12). -/
  rxsum : Word
  /-- `RXCALC` (R12). -/
  rxcalc : Word
  /-- `DLEN` (R12). -/
  dlen : Word
  /-- `RXERR` (R18). -/
  rxerr : Option FrameError
  /-- `XDS` (R17). -/
  xds : XdState
  /-- `XDERR` (R19). -/
  xderr : Option DcbError
  /-- `DCBLEN` (R12). -/
  dcblen : Word
  /-- `REF` (R20). -/
  ref : Bool
  /-- `REFCODE` (R20). -/
  refcode : Option Reason
  /-- `RXBUF` (R23, `20_memory.md` R30). -/
  rxbuf : Memory
  /-- The model's own: how many resets there have been, which tells one unspecified content of `RXBUF` from the next (log 7). -/
  rxEpoch : Nat
  /-- `TXOUT`, oldest pair first (R23, `20_memory.md` R34). -/
  txout : List TxPair
  /-- The model's own: what the host has given and the block has not yet taken, next item first (log 1). -/
  port : List PortItem
  /-- The model's own: the response words answered so far, oldest first (`30_encoding.md` R51; log 10). -/
  answers : List Response
  deriving DecidableEq, Repr

/-- The block after power-on reset (`70_reset_and_hazards.md` R150): 'at the beginning of time' `TXOUT` is empty. The
configuration is the default (log 4, log 5, log 6); the model's own fields are empty (log 1, log 7, log 10). -/
def State.reset : State where
  cfg := defaultConfig
  acc := 0xFFFF
  txs := .idle
  txacc := 0xFFFF
  txrem := 0
  rxs := .idle
  rxcnt := 0
  rxopc := 0
  rxlen := 0
  rxsum := 0
  rxcalc := 0
  dlen := 0
  rxerr := none
  xds := .none
  xderr := none
  dcblen := 0
  ref := false
  refcode := none
  rxbuf := []
  rxEpoch := 0
  txout := []
  port := []
  answers := []

end Sys2Proof.Machine
end

