-- ==== Sys2Proof/Machine/Flags.lean ====
section
/-! DEFINITION. The status register and the words the block answers. -/

namespace Sys2Proof.Machine

/-- `STATUS`, the concatenation of its fields (`10_state.md` R21): `REFCODE` 15:14, `REF` 13, `XDERR` 12:9, `RXERR` 8:5,
`XDS` 4:3, `RXS` 2:1, `TXS` 0. -/
def State.status (s : State) : Word :=
  refcodeCode s.refcode ++ BitVec.ofBool s.ref ++ xderrCode s.xderr ++ rxerrCode s.rxerr ++ s.xds.code ++ s.rxs.code
    ++ s.txs.code

/-- A response word: `RC` in bits 18:17, `VAL` in bits 16:0 (`30_encoding.md` R51). -/
def rspw (rc : BitVec 2) (val : BitVec 17) : Response := rc ++ val

/-- `ok(v)` as a response word: `RC = 0` (`30_encoding.md` R51). -/
def okWord (val : BitVec 17) : Response := rspw 0 val

/-- `refuse(code)` as a response word: `VAL = 0` (`60_exceptions.md` R137). -/
def refusedWord (r : Reason) : Response := rspw r.code 0

end Sys2Proof.Machine
end

