-- ==== Sys2Proof/Machine/Ops.lean ====
section
/-! DEFINITION. The named operations over the state: the receive buffer, the transmit stream, the two answers of an
operation, entering and leaving an error, reset, and taking the next item from the port. -/

namespace Sys2Proof.Machine

/-! ## The receive buffer (`20_memory.md` R30) -/

/-- Number of cells of `RXBUF`. -/
def cellCount : Nat := 65535

/-- The value of a cell that is listed. -/
def Memory.lookup : Memory → Nat → Option Octet
  | [], _ => none
  | (k, v) :: rest, i => if k = i then some v else Memory.lookup rest i

/-- Cell `i` gets the value `b`; the addresses stay strictly rising. -/
def Memory.write : Memory → Nat → Octet → Memory
  | [], i, b => [(i, b)]
  | (k, v) :: rest, i, b =>
    if i < k then (i, b) :: (k, v) :: rest
    else if i = k then (i, b) :: rest
    else (k, v) :: Memory.write rest i b

/-- Every address is at least `low` and below `cellCount`, and the addresses rise strictly. -/
def Memory.wfFrom : Nat → Memory → Bool
  | _, [] => true
  | low, (k, _) :: rest => decide (low ≤ k) && decide (k < cellCount) && Memory.wfFrom (k + 1) rest

/-- The one canonical form: strictly rising addresses, each of an existing cell. No entry can equal what an unlisted cell
reads as, since an unlisted cell holds no stated value (log 7). -/
def Memory.wf (m : Memory) : Bool := Memory.wfFrom 0 m

/-- `RXBUF[i]`: the value written last, or, for a cell not written since reset, an unspecified one (log 7). -/
def State.cell (s : State) (i : Nat) : Octet :=
  match Memory.lookup s.rxbuf i with
  | some b => b
  | none => Config.rxbufUnspecified s.rxEpoch i

/-- `RXBUF[start .. start + len - 1]`. -/
def State.cells (s : State) (start len : Nat) : List Octet := (List.range len).map fun i => s.cell (start + i)

/-- `RXBUF[i] <- b`. -/
def State.setCell (s : State) (i : Nat) (b : Octet) : State := { s with rxbuf := Memory.write s.rxbuf i b }

/-! ## The transmit stream (`20_memory.md` R34) -/

/-- `emit` each pair in order. -/
def State.emit (s : State) (ps : List TxPair) : State := { s with txout := s.txout ++ ps }

/-- Octets in the middle of a frame: `last = 0`. -/
def midFrame (octets : List Octet) : List TxPair := octets.map fun b => ⟨b, false⟩

/-- Octets that end a frame: only the final one has `last = 1`. -/
def flagLast : List Octet → List TxPair
  | [] => []
  | [b] => [⟨b, true⟩]
  | b :: rest => ⟨b, false⟩ :: flagLast rest

/-! ## The two answers of an operation (`00_scope.md` R6) -/

/-- The answer `w` is given to the host. -/
def State.answer (s : State) (w : Response) : State := { s with answers := s.answers ++ [w] }

/-- `return ok(v)`. -/
def State.ok (s : State) (v : BitVec 17) : State := s.answer (okWord v)

/-- `refuse(code)`: only `REF` and `REFCODE` change, and the answer carries the code (`60_exceptions.md` R137). -/
def State.refuse (s : State) (r : Reason) : State := { s.answer (refusedWord r) with ref := true, refcode := some r }

/-! ## Entering and leaving an error (`60_exceptions.md` R135, R138) -/

/-- `RX.END` finds an error: the code goes to `RXERR` and is answered, `RXS` is `R_ERR`. -/
def State.rxFail (s : State) (e : FrameError) : State :=
  { s with rxerr := some e, rxs := .err }.ok (e.code.zeroExtend 17)

/-- `XD.CHECK` finds an error: the code goes to `XDERR` and is answered, `XDS` is `X_ERR`, `DCBLEN` is 0. -/
def State.xdFail (s : State) (e : DcbError) : State :=
  { s with xds := .err, xderr := some e, dcblen := 0 }.ok (e.code.zeroExtend 17)

/-- `RX.START`, the way out of an error: the fields it clears, and `R_RECV` (`43_frame_parse.md` R93). -/
def State.rxOpen (s : State) : State :=
  { s with rxcnt := 0, rxs := .recv, rxerr := none, xds := .none, xderr := none, rxopc := 0, rxlen := 0, rxsum := 0,
           rxcalc := 0, dlen := 0, dcblen := 0 }

/-! ## Reset (`70_reset_and_hazards.md` R150) -/

/-- Every register to its reset value. `TXOUT` is left alone; the cells of `RXBUF` are unspecified from here on. -/
def State.blockReset (s : State) : State :=
  { s with acc := 0xFFFF, txs := .idle, txacc := 0xFFFF, txrem := 0, rxs := .idle, rxcnt := 0, rxopc := 0, rxlen := 0,
           rxsum := 0, rxcalc := 0, dlen := 0, rxerr := none, xds := .none, xderr := none, dcblen := 0, ref := false,
           refcode := none, rxbuf := [], rxEpoch := s.rxEpoch + 1 }

/-! ## One operation after another -/

/-- `f` on the state an outcome leaves, if it leaves one. -/
def andThen (o : Host.Outcome State Fault Refusal) (f : State → Host.Outcome State Fault Refusal) :
    Host.Outcome State Fault Refusal :=
  match o with
  | .next s => f s
  | .fault r => .fault r
  | .refused r => .refused r

/-! ## The command port -/

/-- The next item of the port and the state with that item taken. -/
def State.fetch (s : State) : Option (PortItem × State) :=
  match s.port with
  | [] => none
  | item :: rest => some (item, { s with port := rest })

/-- One item: the reset event resets (`70_reset_and_hazards.md` R150), an instruction is run by `run`, and an item that is no
instruction is refused with `ILLEGAL` (`30_encoding.md` R52; for a frame, log 14). -/
def runItem (run : Instr → State → Host.Outcome State Fault Refusal) (item : PortItem) (s : State) :
    Host.Outcome State Fault Refusal :=
  match item with
  | .hwReset => .next s.blockReset
  | .word w =>
    match decodeWord w with
    | some i => run i s
    | none => .next (s.refuse .illegal)
  | .frame octets =>
    match decodeFrame octets with
    | some i => run i s
    | none => .next (s.refuse .illegal)

/-- The host gives one more item, ahead of every other. -/
def State.give (s : State) (item : PortItem) : State := { s with port := item :: s.port }

end Sys2Proof.Machine
end

