-- ==== Sys2Proof/Machine/Operands.lean ====
section
/-! DEFINITION. What the operands of an operation reach: the two windows (`20_memory.md` R32) and the register numbers
(`10_state.md` R22). -/

namespace Sys2Proof.Machine

/-- `RX_HDR`, the offset of the data window. -/
def State.dataBase (s : State) : Nat := hdrSize s.cfg.rxHdr

/-- `RX_HDR + 4`, the offset of the RawDCB window. -/
def State.dcbBase (s : State) : Nat := hdrSize s.cfg.rxHdr + 4

/-- The octets of the open data window (R32). -/
def State.dataWindow (s : State) : List Octet := s.cells s.dataBase s.dlen.toNat

/-- The octets of the open RawDCB window (R32). -/
def State.dcbWindow (s : State) : List Octet := s.cells s.dcbBase s.dcblen.toNat

/-- A window read answers the octet zero-extended to 17 bits; a cell that does not exist is the model's own fault (log 8). -/
def State.readCell (s : State) (index : Nat) : Host.Outcome State Fault Refusal :=
  if index < cellCount then .next (s.ok ((s.cell index).zeroExtend 17)) else .fault (.noSuchCell index)

/-- The register of a number, zero-extended to 17 bits; nothing for the reserved numbers 0x0B to 0xFF (R22). -/
def State.register (s : State) (r : Octet) : Option (BitVec 17) :=
  match r.toNat with
  | 0x00 => some (s.acc.zeroExtend 17)
  | 0x01 => some (s.status.zeroExtend 17)
  | 0x02 => some (s.txacc.zeroExtend 17)
  | 0x03 => some (s.txrem.zeroExtend 17)
  | 0x04 => some s.rxcnt
  | 0x05 => some (s.rxopc.zeroExtend 17)
  | 0x06 => some (s.rxlen.zeroExtend 17)
  | 0x07 => some (s.rxsum.zeroExtend 17)
  | 0x08 => some (s.rxcalc.zeroExtend 17)
  | 0x09 => some (s.dlen.zeroExtend 17)
  | 0x0A => some (s.dcblen.zeroExtend 17)
  | _ => none

end Sys2Proof.Machine
end

