-- ==== Sys2Proof/Machine/Checksum.lean ====
section
/-! DEFINITION. The operations of the checksum unit (`41_checksum.md` R74 to R76). -/

namespace Sys2Proof.Machine

/-- `CS.INIT` (R74). -/
def execCsInit (s : State) : Host.Outcome State Fault Refusal :=
  .next ({ s with acc := 0xFFFF }.ok 0)

/-- `CS.NIB n` (R75). -/
def execCsNib (n : Nibble) (s : State) : Host.Outcome State Fault Refusal :=
  .next ({ s with acc := nibStep s.cfg.table s.acc n }.ok 0)

/-- `CS.OCT b` (R76). -/
def execCsOct (b : Octet) (s : State) : Host.Outcome State Fault Refusal :=
  .next ({ s with acc := octStep s.cfg.table s.acc b }.ok 0)

end Sys2Proof.Machine
end

