-- ==== Sys2Proof/Machine/Build.lean ====
section
/-! DEFINITION. The operations of the command frame builder (`42_frame_build.md` R81, R83). -/

namespace Sys2Proof.Machine

/-- The most data octets a command frame can have: `65535 - 7` (`00_scope.md` R3). -/
def maxData : Nat := 65528

/-- The frame is complete: its checksum is emitted, the high octet last, and the unit is idle. -/
def State.endFrame (s : State) : State :=
  { s with txrem := 0, txs := .idle }.emit (flagLast (w2b s.txacc))

/-- `TX.START opc, pin, dlen` (R81): the checks in the order written, then the five header octets. -/
def execTxStart (opc : Octet) (pin dlen : Word) (s : State) : Host.Outcome State Fault Refusal :=
  if s.txs ≠ .idle then .next (s.refuse .state)
  else if dlen.toNat > maxData then .next (s.refuse .range)
  else
    let h := frameHeader opc (BitVec.ofNat 16 (7 + dlen.toNat)) pin
    let s1 := { s with txacc := csum s.cfg.table h }.emit (midFrame h)
    if dlen = 0 then .next (s1.endFrame.ok 0)
    else .next ({ s1 with txrem := dlen, txs := .data }.ok 0)

/-- `TX.DATA b` (R83): one data octet and, after the last one owed, the checksum. -/
def execTxData (b : Octet) (s : State) : Host.Outcome State Fault Refusal :=
  if s.txs ≠ .data then .next (s.refuse .state)
  else if s.txrem = 0 then .fault .nothingOwed
  else
    let s1 := { s with txacc := octStep s.cfg.table s.txacc b, txrem := s.txrem - 1 }.emit (midFrame [b])
    if s1.txrem = 0 then .next (s1.endFrame.ok 0)
    else .next (s1.ok 0)

end Sys2Proof.Machine
end

