-- ==== Sys2Proof/Machine/Parse.lean ====
section
/-! DEFINITION. The operations of the response frame parser (`43_frame_parse.md` R93 to R97). -/

namespace Sys2Proof.Machine

/-- `RX.START` (R93): never refused. -/
def execRxStart (s : State) : Host.Outcome State Fault Refusal := .next (s.rxOpen.ok 0)

/-- `RX.OCT b` (R95): octets 0 to 65534 are stored, and `RXCNT` stops at 65536. -/
def execRxOct (b : Octet) (s : State) : Host.Outcome State Fault Refusal :=
  if s.rxs ≠ .recv then .next (s.refuse .state)
  else if s.rxcnt.toNat ≤ 65534 then
    .next ({ s.setCell s.rxcnt.toNat b with rxcnt := s.rxcnt + 1 }.ok 0)
  else .next ({ s with rxcnt := 65536 }.ok 0)

/-- `RX.END` (R96): too short, then the declared length, then the checksum. A protocol error is no refusal. -/
def execRxEnd (s : State) : Host.Outcome State Fault Refusal :=
  if s.rxs ≠ .recv then .next (s.refuse .state)
  else
    let n := s.rxcnt.toNat
    if n < hdrSize s.cfg.rxHdr + 2 then .next (s.rxFail .frameLengthMismatch)
    else
      let s1 := { s with rxopc := s.cell 0, rxlen := b2w (s.cell 1) (s.cell 2) }
      if s1.rxlen.toNat ≠ n then .next (s1.rxFail .frameLengthMismatch)
      else
        let s2 := { s1 with rxsum := b2w (s.cell (n - 2)) (s.cell (n - 1)),
                            rxcalc := csum s.cfg.table (s.cells 0 (n - 2)) }
        if s2.rxcalc ≠ s2.rxsum then .next (s2.rxFail .frameChecksumMismatch)
        else
          .next ({ s2 with dlen := BitVec.ofNat 16 (n - hdrSize s.cfg.rxHdr - 2), rxerr := none, rxs := .ok }.ok 0)

/-- `RX.RD i` (R97): octet `i` of the data of the accepted frame. -/
def execRxRd (i : Word) (s : State) : Host.Outcome State Fault Refusal :=
  if s.rxs ≠ .ok then .next (s.refuse .state)
  else if i.toNat ≥ s.dlen.toNat then .next (s.refuse .range)
  else s.readCell (s.dataBase + i.toNat)

end Sys2Proof.Machine
end

