-- ==== Sys2Proof/Machine/Exchange.lean ====
section
/-! DEFINITION. The operations of the read-DCB checker (`44_read_dcb_exchange.md` R110, R111) and the two wire frame types as
the pseudo-operations `XD.REQ` and `XD.RSP` (`30_encoding.md` R58). -/

namespace Sys2Proof.Machine

/-- `XD.CHECK` (R110). It reads at most the first six octets of the data. A failed check is no refusal. -/
def execXdCheck (s : State) : Host.Outcome State Fault Refusal :=
  if s.rxs ≠ .ok then .next (s.refuse .state)
  else
    match dcbCheck s.cfg.redOrder s.rxopc s.dlen.toNat (fun i => s.cell (s.dataBase + i)) with
    | some e => .next (s.xdFail e)
    | none => .next ({ s with xds := .ok, xderr := none, dcblen := s.dlen - 4 }.ok 0)

/-- `XD.RD i` (R111): octet `i` of RawDCB. -/
def execXdRd (i : Word) (s : State) : Host.Outcome State Fault Refusal :=
  if s.xds ≠ .ok then .next (s.refuse .state)
  else if i.toNat ≥ s.dcblen.toNat then .next (s.refuse .range)
  else s.readCell (s.dcbBase + i.toNat)

/-- `TX.DATA` of each octet in turn. -/
def sendData : List Octet → State → Host.Outcome State Fault Refusal
  | [], s => .next s
  | b :: rest, s => andThen (execTxData b s) (sendData rest)

/-- `RX.OCT` of each octet in turn. -/
def receive : List Octet → State → Host.Outcome State Fault Refusal
  | [], s => .next s
  | b :: rest, s => andThen (execRxOct b s) (receive rest)

/-- `READ_DCB_REQUEST`, that is `XD.REQ pin`: `TX.START 0x93, pin, 4` and four `TX.DATA` (R105). The block
makes the checksum, so the one given is not read (`42_frame_build.md` R83; log 12). -/
def execReadDcbRequest (pin _sum : Word) (s : State) : Host.Outcome State Fault Refusal :=
  andThen (execTxStart 0x93 pin (BitVec.ofNat 16 readDcbData.length) s) (sendData readDcbData)

/-- `READ_DCB_RESPONSE`, that is `XD.RSP octets`: `RX.START`, `RX.OCT` of each octet, `RX.END`, `XD.CHECK`
(R107, `30_encoding.md` R58; log 13). -/
def execReadDcbResponse (octets : List Octet) (s : State) : Host.Outcome State Fault Refusal :=
  andThen (execRxStart s) fun s1 => andThen (receive octets s1) fun s2 => andThen (execRxEnd s2) execXdCheck

end Sys2Proof.Machine
end

