-- ==== Sys2Proof/Machine/System.lean ====
section
/-! DEFINITION. The system operations (`45_system.md` R120 to R122). -/

namespace Sys2Proof.Machine

/-- `NOP` (R120). -/
def execNop (s : State) : Host.Outcome State Fault Refusal := .next (s.ok 0)

/-- `REG.RD r` (R121): no side effect; a reserved number is refused with `RANGE`. -/
def execRegRd (r : Octet) (s : State) : Host.Outcome State Fault Refusal :=
  match s.register r with
  | some v => .next (s.ok v)
  | none => .next (s.refuse .range)

/-- `BLK.RESET` (R122): the effect of hardware reset, and an answer. -/
def execBlkReset (s : State) : Host.Outcome State Fault Refusal := .next (s.blockReset.ok 0)

end Sys2Proof.Machine
end

