-- ==== Sys2Proof/Machine/Dispatch.lean ====
section
/-! DEFINITION. One arm for each instruction. -/

namespace Sys2Proof.Machine

def exec (i : Instr) (s : State) : Host.Outcome State Fault Refusal :=
  match i with
  | .nop => Sys2Proof.Machine.execNop s
  | .csInit => Sys2Proof.Machine.execCsInit s
  | .csNib n => Sys2Proof.Machine.execCsNib n s
  | .csOct b => Sys2Proof.Machine.execCsOct b s
  | .txStart opc pin dlen => Sys2Proof.Machine.execTxStart opc pin dlen s
  | .txData b => Sys2Proof.Machine.execTxData b s
  | .rxStart => Sys2Proof.Machine.execRxStart s
  | .rxOct b => Sys2Proof.Machine.execRxOct b s
  | .rxEnd => Sys2Proof.Machine.execRxEnd s
  | .rxRd k => Sys2Proof.Machine.execRxRd k s
  | .xdCheck => Sys2Proof.Machine.execXdCheck s
  | .xdRd k => Sys2Proof.Machine.execXdRd k s
  | .regRd r => Sys2Proof.Machine.execRegRd r s
  | .blkReset => Sys2Proof.Machine.execBlkReset s
  | .readDcbRequest pin sum => Sys2Proof.Machine.execReadDcbRequest pin sum s
  | .readDcbResponse octets => Sys2Proof.Machine.execReadDcbResponse octets s

end Sys2Proof.Machine
end

