-- ==== Sys2Proof/Machine/Step.lean ====
section
/-! DEFINITION. One step: the next item of the port is taken and run. With nothing on the port the block is idle and holds
its state (`45_system.md` R124; log 2). -/

namespace Sys2Proof.Machine

def step (s : State) : Host.Outcome State Fault Refusal :=
  match s.fetch with
  | none => .next s
  | some (item, s1) => runItem exec item s1

/-- The instruction of a table row, given at the head of the port, where `step` takes its next item. -/
def State.withFetchWord (s : State) (nbits w : Nat) : State := s.give (tableItem nbits w)

end Sys2Proof.Machine
end

