-- ==== Sys2Proof/Machine/Pseudo.lean ====
section
/-! DEFINITION. A sequence of operations, and the pseudo-operations, each an abbreviation for one (`30_encoding.md` R58). -/

namespace Sys2Proof.Machine

/-- The instructions of a list, one after another. -/
def execSeq : List Instr → State → Host.Outcome State Fault Refusal
  | [], s => .next s
  | i :: rest, s => andThen (exec i s) (execSeq rest)

/-- `CS.RD`. -/
def csRd : List Instr := [.regRd 0x00]

/-- `CS.SEQ b0 ... bk`. -/
def csSeq (octets : List Octet) : List Instr := .csInit :: octets.map .csOct

/-- `TX.FRAME opc, pin, [b0 ... bk]`, for at most 65528 octets (`42_frame_build.md` R85). Of more than 65535 the spec gives no
command word for the count. DESIGN CHOICE (log 21): there the operand of `TX.START` is the count modulo 2^16. -/
def txFrame (opc : Octet) (pin : Word) (data : List Octet) : List Instr :=
  .txStart opc pin (BitVec.ofNat 16 data.length) :: data.map .txData

/-- `XD.REQ pin`. -/
def xdReq (pin : Word) : List Instr := txFrame 0x93 pin readDcbData

/-- `RX.FRAME [b0 ... bk]`. -/
def rxFrame (octets : List Octet) : List Instr := .rxStart :: octets.map .rxOct ++ [.rxEnd]

/-- `XD.RSP [b0 ... bk]`. -/
def xdRsp (octets : List Octet) : List Instr := rxFrame octets ++ [.xdCheck]

end Sys2Proof.Machine
end

