-- ==== Sys2Proof/Safety.lean ====
section
/-! DEFINITION. What the statements speak of: the invariants of `10_state.md` R25, the transition tables of
`42_frame_build.md` R86 and `43_frame_parse.md` R99, the refusal table of `60_exceptions.md` R136, and the units of R10. -/

namespace Sys2Proof.Machine

/-! ## The invariant of every reachable state (`10_state.md` R25) -/

/-- R25 (a), R15. -/
abbrev State.TxInv (s : State) : Prop := (s.txs = .data ↔ s.txrem ≠ 0) ∧ s.txrem.toNat ≤ 65528

/-- R25 (b), (c), R18. -/
abbrev State.RxInv (s : State) : Prop := s.rxcnt.toNat ≤ 65536 ∧ (s.rxs = .err ↔ s.rxerr ≠ none)

/-- R25 (d). -/
abbrev State.AcceptedInv (s : State) : Prop :=
  s.rxs = .ok → s.rxlen.toNat = s.rxcnt.toNat ∧ hdrSize s.cfg.rxHdr + 2 ≤ s.rxcnt.toNat ∧ s.rxcnt.toNat ≤ 65535 ∧
    s.rxsum = s.rxcalc ∧ s.dlen.toNat = s.rxcnt.toNat - hdrSize s.cfg.rxHdr - 2

/-- R25 (e). -/
abbrev State.ShutInv (s : State) : Prop := s.rxs ≠ .ok → s.dlen = 0 ∧ s.xds = .none

/-- R25 (f), (g), R19. -/
abbrev State.XdInv (s : State) : Prop :=
  (s.xds = .ok → s.dcblen.toNat = s.dlen.toNat - 4 ∧ 2 ≤ s.dcblen.toNat ∧ s.rxopc = 0x94) ∧
    (s.xds ≠ .ok → s.dcblen = 0) ∧ (s.xds = .err ↔ s.xderr ≠ none)

/-- R20. -/
abbrev State.RefInv (s : State) : Prop := s.ref = true ↔ s.refcode ≠ none

/-- R25 (h) as far as a state without a history can say it: every cell of the sequence in progress holds a written value. -/
abbrev State.CellInv (s : State) : Prop :=
  Memory.wf s.rxbuf = true ∧ ∀ i < min s.rxcnt.toNat 65535, (Memory.lookup s.rxbuf i).isSome = true

/-- R25 with R15, R18, R19 and R20, and the canonical form of `RXBUF`. -/
abbrev State.Inv (s : State) : Prop :=
  s.TxInv ∧ s.RxInv ∧ s.AcceptedInv ∧ s.ShutInv ∧ s.XdInv ∧ s.RefInv ∧ s.CellInv

/-- The Frame invariant of the source on an accepted frame (`10_state.md` R13): the registers are the fields of the frame in
`RXBUF`, the length is the number of its octets, and the checksum is computed over every preceding octet; and what
`XD.CHECK` found is what `check_dcb` says of that frame (`44_read_dcb_exchange.md` R110). -/
abbrev State.FrameInv (s : State) : Prop :=
  s.rxs = .ok →
    parse s.cfg (s.cells 0 s.rxcnt.toNat) = .ok (s.rxopc, s.dataWindow) ∧
    s.rxlen = b2w (s.cell 1) (s.cell 2) ∧
    s.rxsum = b2w (s.cell (s.rxcnt.toNat - 2)) (s.cell (s.rxcnt.toNat - 1)) ∧
    s.rxcalc = csum s.cfg.table (s.cells 0 (s.rxcnt.toNat - 2)) ∧
    (s.xds = .ok → checkDcb s.cfg.redOrder s.rxopc s.dataWindow = .ok s.dcbWindow) ∧
    (∀ e, s.xderr = some e → checkDcb s.cfg.redOrder s.rxopc s.dataWindow = .error e)

/-! ## Units (`10_state.md` R10) -/

/-- The three units, and the operations that belong to none. -/
inductive BlockUnit
  | cs
  | tx
  | rx
  | none
  deriving DecidableEq, Repr

/-- The unit of an instruction; the checker XD is part of the RX unit (R10). -/
def unitOf : Instr → BlockUnit
  | .nop => .none
  | .csInit => .cs
  | .csNib _ => .cs
  | .csOct _ => .cs
  | .txStart _ _ _ => .tx
  | .txData _ => .tx
  | .rxStart => .rx
  | .rxOct _ => .rx
  | .rxEnd => .rx
  | .rxRd _ => .rx
  | .xdCheck => .rx
  | .xdRd _ => .rx
  | .regRd _ => .none
  | .blkReset => .none
  | .readDcbRequest _ _ => .tx
  | .readDcbResponse _ => .rx

/-- The registers and the parameters of the CS unit are the same. -/
def SameCs (s t : State) : Prop := s.cfg = t.cfg ∧ s.acc = t.acc

/-- The registers and the parameters of the TX unit are the same. -/
def SameTx (s t : State) : Prop := s.cfg = t.cfg ∧ s.txs = t.txs ∧ s.txacc = t.txacc ∧ s.txrem = t.txrem

/-- The registers, the buffer and the parameters of the RX unit are the same. -/
def SameRx (s t : State) : Prop :=
  s.cfg = t.cfg ∧ s.rxs = t.rxs ∧ s.rxcnt = t.rxcnt ∧ s.rxopc = t.rxopc ∧ s.rxlen = t.rxlen ∧ s.rxsum = t.rxsum ∧
    s.rxcalc = t.rxcalc ∧ s.dlen = t.dlen ∧ s.rxerr = t.rxerr ∧ s.xds = t.xds ∧ s.xderr = t.xderr ∧ s.dcblen = t.dcblen ∧
    s.rxbuf = t.rxbuf ∧ s.rxEpoch = t.rxEpoch

/-- The registers of one unit are the same; for no unit, nothing is asked. -/
def SameUnit (u : BlockUnit) (s t : State) : Prop :=
  match u with
  | .cs => SameCs s t
  | .tx => SameTx s t
  | .rx => SameRx s t
  | .none => True

/-- Everything is the same but the cells of `RXBUF` that hold no octet of the sequence in progress (`20_memory.md` R33). -/
def SameButStale (s t : State) : Prop :=
  { s with rxbuf := t.rxbuf, rxEpoch := t.rxEpoch } = t ∧ ∀ i < min s.rxcnt.toNat 65535, s.cell i = t.cell i

/-! ## Operations -/

/-- One of the fourteen operations of R53, that is, not one of the two wire frame types. -/
def isOperation : Instr → Bool
  | .nop => true
  | .csInit => true
  | .csNib _ => true
  | .csOct _ => true
  | .txStart _ _ _ => true
  | .txData _ => true
  | .rxStart => true
  | .rxOct _ => true
  | .rxEnd => true
  | .rxRd _ => true
  | .xdCheck => true
  | .xdRd _ => true
  | .regRd _ => true
  | .blkReset => true
  | .readDcbRequest _ _ => false
  | .readDcbResponse _ => false

/-- The refusal table (`60_exceptions.md` R136): why an operation is refused in a state, if it is; the unit state before the
operand range (R134). -/
def refusalOf (i : Instr) (s : State) : Option Reason :=
  match i with
  | .nop => none
  | .csInit => none
  | .csNib _ => none
  | .csOct _ => none
  | .txStart _ _ dlen => if s.txs = .data then some .state else if dlen.toNat > 65528 then some .range else none
  | .txData _ => if s.txs = .idle then some .state else none
  | .rxStart => none
  | .rxOct _ => if s.rxs = .recv then none else some .state
  | .rxEnd => if s.rxs = .recv then none else some .state
  | .rxRd k => if s.rxs = .ok then (if k.toNat < s.dlen.toNat then none else some .range) else some .state
  | .xdCheck => if s.rxs = .ok then none else some .state
  | .xdRd k => if s.xds = .ok then (if k.toNat < s.dcblen.toNat then none else some .range) else some .state
  | .regRd r => if r.toNat > 0x0A then some .range else none
  | .blkReset => none
  | .readDcbRequest _ _ => none
  | .readDcbResponse _ => none

/-- The transition table of the TX unit (`42_frame_build.md` R86): `TXS` and `TXREM` after an operation. -/
def txTable (i : Instr) (txs : TxState) (txrem : Word) : TxState × Word :=
  match i, txs with
  | .txStart _ _ dlen, .idle =>
    if dlen = 0 then (.idle, 0) else if dlen.toNat ≤ 65528 then (.data, dlen) else (.idle, txrem)
  | .txData _, .data => if txrem = 1 then (.idle, 0) else (.data, txrem - 1)
  | .blkReset, _ => (.idle, 0)
  | _, _ => (txs, txrem)

/-- The transition table of the RX unit (`43_frame_parse.md` R99): `RXS` after an operation; `accepts` says whether `parse`
succeeds on the octets received. -/
def rxTable (i : Instr) (rxs : RxState) (accepts : Bool) : RxState :=
  match i, rxs with
  | .rxStart, _ => .recv
  | .rxEnd, .recv => if accepts then .ok else .err
  | .blkReset, _ => .idle
  | _, _ => rxs

/-- Whether `parse` succeeds on the octets received so far. -/
def State.accepts (s : State) : Bool :=
  match parse s.cfg (s.cells 0 s.rxcnt.toNat) with
  | .ok _ => true
  | .error _ => false

/-! ## Runs -/

/-- The block at the beginning of time with a configuration and with what the host will give it. -/
def boot (cfg : Config) (port : List PortItem) : State := { State.reset with cfg := cfg, port := port }

/-- A safe run is one in which no operation was refused: `REF = 0` at its end (`60_exceptions.md` R137). -/
def State.Clean (s : State) : Prop := s.ref = false

end Sys2Proof.Machine
end

