-- ==== Sys2Proof/Certificates/Slice0/Obligations.lean ====
section
/-! DEFINITION. The statements for the provers. -/

open Sys2Proof Sys2Proof.Machine

/-! ## The command port, decoding and encoding -/

/-- A step runs the decoded instruction: the next item of the port is taken and nothing else is changed; where it is the
command word or the frame of `i`, the step is `exec i` on that state. The port is the model's own (log 1). -/
def Obligations.StepRunsDecodedInstruction : Prop :=
  ∀ (s : State) (item : PortItem) (rest : List PortItem), s.port = item :: rest →
    step s = runItem exec item { s with port := rest } ∧
    ∀ i : Instr, decode item = some i → step s = exec i { s with port := rest }

/-- With nothing on the port the block is idle and holds its state (R124); that such a step is taken at all is the model's
choice (log 2). -/
def Obligations.IdleBlockHoldsState : Prop := ∀ s : State, s.port = [] → step s = .next s

/-- A frame given at the port that is neither a read-DCB response nor a read-DCB request is refused with `ILLEGAL`: the
model's choice (log 14). -/
def Obligations.ForeignFrameIsRefused : Prop :=
  ∀ (s : State) (octets : List Octet) (rest : List PortItem), s.port = .frame octets :: rest →
    octets.head? ≠ some 0x94 → (∀ pin sum, octets ≠ requestFrame pin sum) →
    step s = .next { s with port := rest, ref := true, refcode := some .illegal, answers := s.answers ++ [rspw 1 0] }

/-- R54, R55, R123: which words are illegal, by their fields; each of them is refused with `ILLEGAL` in every state, and nothing
changes but `REF` and `REFCODE`. -/
def Obligations.IllegalWordsByField : Prop :=
  ∀ w : CmdWord,
    (decodeWord w = none ↔
      opField w = 0x6 ∨ opField w = 0xF ∨ zField w ≠ 0 ∨
      (opField w ∈ [(0x0 : Nibble), 0x1, 0x7, 0x9, 0xB, 0xE] ∧ (a8Field w ≠ 0 ∨ b16Field w ≠ 0 ∨ c16Field w ≠ 0)) ∨
      (opField w = 0x2 ∧ ((a8Field w).extractLsb' 4 4 ≠ 0 ∨ b16Field w ≠ 0 ∨ c16Field w ≠ 0)) ∨
      (opField w ∈ [(0x3 : Nibble), 0x5, 0x8, 0xD] ∧ (b16Field w ≠ 0 ∨ c16Field w ≠ 0)) ∨
      (opField w ∈ [(0xA : Nibble), 0xC] ∧ (a8Field w ≠ 0 ∨ c16Field w ≠ 0))) ∧
    (decodeWord w = none → ∀ s : State, runItem exec (.word w) s =
      .next { s with ref := true, refcode := some .illegal, answers := s.answers ++ [rspw 1 0] })

/-- R52: a word that a row of the table selects is the operation of that row, which is the only such row, whatever the state; a
word that no row selects is refused with `ILLEGAL`. -/
def Obligations.OneRowSelectsEachOperation : Prop :=
  ∀ w : CmdWord,
    (∀ r ∈ opRows, r.selects w = true →
      (∀ r' ∈ opRows, r'.selects w = true → r' = r) ∧
      ∃ i, decodeWord w = some i ∧ i.mnemonic = r.mnemonic ∧ ∀ s : State, runItem exec (.word w) s = exec i s) ∧
    ((∀ r ∈ opRows, r.selects w = false) → ∀ s : State, runItem exec (.word w) s =
      .next { s with ref := true, refcode := some .illegal, answers := s.answers ++ [rspw 1 0] })

/-- Decode and encode agree on every well-formed instruction, every operand at every value. -/
def Obligations.DecodeOfEncode : Prop := ∀ i : Instr, i.wf = true → decode (encode i) = some i

/-- No bit of an item is dropped: an item that decodes is the encoding of the instruction it decodes to, which is well
formed. -/
def Obligations.EncodeOfDecode : Prop :=
  ∀ (item : PortItem) (i : Instr), decode item = some i → encode i = item ∧ i.wf = true

/-- Words of `95_test_vectors.md` section 2.10, one of each operation. The last two clauses are the model's choice: that the
octets of the frames B1 and F11 (sections 2.5 and 2.6) are read as the instructions of the two wire frame rows (log 12,
log 13). -/
def Obligations.WordsOfTheSpecDecode : Prop :=
  decodeWord 0x000000000000 = some .nop ∧
  decodeWord 0x100000000000 = some .csInit ∧
  decodeWord 0x200900000000 = some (.csNib 0x9) ∧
  decodeWord 0x309300000000 = some (.csOct 0x93) ∧
  decodeWord 0x409304D20004 = some (.txStart 0x93 1234 4) ∧
  decodeWord 0x50FF00000000 = some (.txData 0xFF) ∧
  decodeWord 0x700000000000 = some .rxStart ∧
  decodeWord 0x809400000000 = some (.rxOct 0x94) ∧
  decodeWord 0x900000000000 = some .rxEnd ∧
  decodeWord 0xA000000B0000 = some (.rxRd 11) ∧
  decodeWord 0xB00000000000 = some .xdCheck ∧
  decodeWord 0xC00000070000 = some (.xdRd 7) ∧
  decodeWord 0xD00100000000 = some (.regRd 0x01) ∧
  decodeWord 0xE00000000000 = some .blkReset ∧
  decodeFrame [0x93, 0x0B, 0x00, 0xD2, 0x04, 0x00, 0x00, 0xFF, 0xFF, 0x28, 0xB4] = some (.readDcbRequest 1234 0xB428) ∧
  decodeFrame [0x94, 0x05, 0x00, 0x90, 0x97] = some (.readDcbResponse [0x94, 0x05, 0x00, 0x90, 0x97])

/-! ## Reset -/

/-- R150: what hardware reset and `BLK.RESET` leave, whatever the state was: every register at its reset value, `TXOUT` and the
configuration untouched, the cells of `RXBUF` unspecified (none is listed, under a new count of resets, log 7). At the
beginning of time `TXOUT` is empty. -/
def Obligations.ResetValues : Prop :=
  (∀ s : State, ∃ t u, runItem exec .hwReset s = .next t ∧ exec .blkReset s = .next u ∧ ∀ v ∈ [t, u],
    v.acc = 0xFFFF ∧ v.txacc = 0xFFFF ∧ v.txrem = 0 ∧ v.txs = .idle ∧ v.rxcnt = 0 ∧ v.rxs = .idle ∧
    v.rxopc = 0 ∧ v.rxlen = 0 ∧ v.rxsum = 0 ∧ v.rxcalc = 0 ∧ v.dlen = 0 ∧ v.dcblen = 0 ∧ v.xds = .none ∧
    v.rxerr = none ∧ v.xderr = none ∧ v.ref = false ∧ v.refcode = none ∧ v.status = 0x0000 ∧
    v.rxbuf = [] ∧ v.rxEpoch = s.rxEpoch + 1 ∧ v.txout = s.txout ∧ v.cfg = s.cfg) ∧
  State.reset.acc = 0xFFFF ∧ State.reset.txacc = 0xFFFF ∧ State.reset.status = 0x0000 ∧ State.reset.txout = []

/-- R122: `BLK.RESET` has exactly the effect of hardware reset on the state, in every state, and answers 0. The content of
`RXBUF` is unspecified afterwards: no cell is listed, under a new count of resets (log 7). No other instruction clears
`REF`. -/
def Obligations.BlkResetResult : Prop :=
  encode .blkReset = .word 0xE00000000000 ∧
  (∀ s : State, exec .blkReset s =
    .next { State.reset with cfg := s.cfg, txout := s.txout, port := s.port, rxEpoch := s.rxEpoch + 1,
                             answers := s.answers ++ [rspw 0 0] }) ∧
  (∀ (i : Instr) (s t : State), s.ref = true → exec i s = .next t → t.ref = true ∨ i = .blkReset)

/-! ## The word codec and the checksum -/

/-- R65, R66, R67: the two octets of a word are its low and its high octet, a word is `lsb + (msb << 8)`, and the two
functions are inverse to each other. -/
def Obligations.WordCodecIsInverse : Prop :=
  (∀ w : Word, w2b w = [BitVec.ofNat 8 w.toNat, BitVec.ofNat 8 (w.toNat >>> 8)]) ∧
  (∀ l m : Octet, (b2w l m).toNat = l.toNat + (m.toNat <<< 8)) ∧
  (∀ w : Word, ∀ l m, w2b w = [l, m] → b2w l m = w) ∧
  (∀ l m : Octet, w2b (b2w l m) = [l, m])

/-- R70: the nibble step on naturals, for every table. -/
def Obligations.NibStepOnNaturals : Prop :=
  ∀ (table : Vector Word 16) (a : Word) (n : Nibble),
    ∃ h : (a.toNat >>> 12) ^^^ n.toNat < 16,
      (nibStep table a n).toNat = ((a.toNat <<< 4) &&& 0xFFFF) ^^^ (table[(a.toNat >>> 12) ^^^ n.toNat]'h).toNat

/-- R72, R73: an octet step is two nibble steps, the high nibble first; `csum` is the left fold from 0xFFFF, and `csum_from`
continues it. -/
def Obligations.CsumIsTheFold : Prop :=
  ∀ (table : Vector Word 16),
    (∀ (a : Word) (b : Octet), octStep table a b =
      nibStep table (nibStep table a (BitVec.ofNat 4 (b.toNat >>> 4))) (BitVec.ofNat 4 b.toNat)) ∧
    csum table [] = 0xFFFF ∧
    (∀ (s : List Octet) (b : Octet), csum table (s ++ [b]) = octStep table (csum table s) b) ∧
    (∀ s : List Octet, csum table s = csumFrom table 0xFFFF s) ∧
    (∀ (a : Word) (s t : List Octet), csumFrom table a (s ++ t) = csumFrom table (csumFrom table a s) t)

/-- R79, its first sentence: with the default table the nibble step is four steps of the division by 0x1021. The table is
PRESUMED (log 4). -/
def Obligations.DefaultTableDividesBitwise : Prop :=
  ∀ (a : Word) (n : Nibble), nibStep defaultTable a n = nibbleDivision a n

/-- R79: with the default table (PRESUMED, log 4) the checksum is affine over exclusive or. -/
def Obligations.DefaultChecksumIsAffine : Prop :=
  ∀ (a x : Word) (s : List Octet),
    csumFrom defaultTable (a ^^^ x) s ^^^ csumFrom defaultTable a s =
      csumFrom defaultTable x s ^^^ csumFrom defaultTable 0 s

/-- R79: with the default table (PRESUMED, log 4) two sequences of equal length that differ in one octet never have equal
checksums, so no single damaged octet passes. -/
def Obligations.DefaultChecksumDetectsOneOctet : Prop :=
  ∀ (pre post : List Octet) (b c : Octet), b ≠ c →
    csum defaultTable (pre ++ b :: post) ≠ csum defaultTable (pre ++ c :: post)

/-- R74: `CS.INIT`, in every state. -/
def Obligations.CsInitResult : Prop :=
  encode .csInit = .word 0x100000000000 ∧
  ∀ s : State, exec .csInit s = .next { s with acc := 0xFFFF, answers := s.answers ++ [rspw 0 0] }

/-- R75: `CS.NIB n` is one nibble step of `ACC` and nothing else, in every state. -/
def Obligations.CsNibResult : Prop :=
  ∀ (n : Nibble) (s : State),
    encode (.csNib n) = .word (0x200000000000 ||| n.zeroExtend 48 <<< 32) ∧
    exec (.csNib n) s = .next { s with acc := nibStep s.cfg.table s.acc n, answers := s.answers ++ [rspw 0 0] }

/-- R76: `CS.OCT b` is one octet step of `ACC` and nothing else, in every state; it leaves the `ACC` that `CS.NIB b[7:4]`
followed by `CS.NIB b[3:0]` leaves. -/
def Obligations.CsOctResult : Prop :=
  ∀ (b : Octet) (s : State),
    encode (.csOct b) = .word (0x300000000000 ||| b.zeroExtend 48 <<< 32) ∧
    exec (.csOct b) s = .next { s with acc := octStep s.cfg.table s.acc b, answers := s.answers ++ [rspw 0 0] } ∧
    ∃ t, execSeq [.csNib (b.extractLsb' 4 4), .csNib (b.extractLsb' 0 4)] s = .next t ∧
      t.acc = octStep s.cfg.table s.acc b

/-- R77: after `CS.INIT` and the octets of a sequence, with operations of other units between them in any way, `ACC` is the
checksum of the octets and `REG.RD ACC` answers it; without `CS.INIT` it is the checksum continued from what `ACC` held. -/
def Obligations.CsSequenceComputesCsum : Prop :=
  ∀ (ops : List Instr) (s t : State),
    (∀ i ∈ ops, (∃ b, i = .csOct b) ∨ unitOf i = .tx ∨ unitOf i = .rx ∨ i = .nop ∨ ∃ r, i = .regRd r) →
    let octets := ops.filterMap fun i => match i with | .csOct b => some b | _ => none
    (execSeq (.csInit :: ops) s = .next t →
      t.acc = csum s.cfg.table octets ∧
      exec (.regRd 0x00) t = .next { t with answers := t.answers ++ [rspw 0 (t.acc.zeroExtend 17)] }) ∧
    (execSeq ops s = .next t → t.acc = csumFrom s.cfg.table s.acc octets)

/-! ## The command frame builder -/

/-- R80: the layout of a built frame: its length, which the length field equals, its opcode, pin and data, and the checksum of
every octet before it at the last two offsets, least significant octet first. -/
def Obligations.BuildLayout : Prop :=
  ∀ (table : Vector Word 16) (opc : Octet) (pin : Word) (data : List Octet), data.length ≤ 65528 →
    let f := build table opc pin data
    f.length = 7 + data.length ∧ octetAt f 0 = opc ∧ (b2w (octetAt f 1) (octetAt f 2)).toNat = f.length ∧
    b2w (octetAt f 3) (octetAt f 4) = pin ∧ (f.drop 5).take data.length = data ∧
    f.drop (5 + data.length) = w2b (csum table (f.take (5 + data.length)))

/-- R81: `TX.START` in its four cases, the checks in the order written. -/
def Obligations.TxStartResult : Prop :=
  ∀ (opc : Octet) (pin dlen : Word) (s : State),
    let h := [opc] ++ w2b (BitVec.ofNat 16 (7 + dlen.toNat)) ++ w2b pin
    encode (.txStart opc pin dlen) = .word
      (0x400000000000 ||| opc.zeroExtend 48 <<< 32 ||| pin.zeroExtend 48 <<< 16 ||| dlen.zeroExtend 48) ∧
    (s.txs = .data → exec (.txStart opc pin dlen) s =
      .next { s with ref := true, refcode := some .state, answers := s.answers ++ [rspw 2 0] }) ∧
    (s.txs = .idle → 65528 < dlen.toNat → exec (.txStart opc pin dlen) s =
      .next { s with ref := true, refcode := some .range, answers := s.answers ++ [rspw 3 0] }) ∧
    (s.txs = .idle → dlen = 0 → exec (.txStart opc pin dlen) s =
      .next { s with txacc := csum s.cfg.table h, txrem := 0, txs := .idle, answers := s.answers ++ [rspw 0 0],
                     txout := s.txout ++ h.map (fun b => ⟨b, false⟩) ++
                       [⟨(csum s.cfg.table h).extractLsb' 0 8, false⟩, ⟨(csum s.cfg.table h).extractLsb' 8 8, true⟩] }) ∧
    (s.txs = .idle → dlen ≠ 0 → dlen.toNat ≤ 65528 → exec (.txStart opc pin dlen) s =
      .next { s with txacc := csum s.cfg.table h, txrem := dlen, txs := .data, answers := s.answers ++ [rspw 0 0],
                     txout := s.txout ++ h.map (fun b => ⟨b, false⟩) })

/-- R83: `TX.DATA` in its three cases. -/
def Obligations.TxDataResult : Prop :=
  ∀ (b : Octet) (s : State),
    let c := octStep s.cfg.table s.txacc b
    encode (.txData b) = .word (0x500000000000 ||| b.zeroExtend 48 <<< 32) ∧
    (s.txs = .idle → exec (.txData b) s =
      .next { s with ref := true, refcode := some .state, answers := s.answers ++ [rspw 2 0] }) ∧
    (s.txs = .data → 2 ≤ s.txrem.toNat → exec (.txData b) s =
      .next { s with txacc := c, txrem := BitVec.ofNat 16 (s.txrem.toNat - 1), answers := s.answers ++ [rspw 0 0],
                     txout := s.txout ++ [⟨b, false⟩] }) ∧
    (s.txs = .data → s.txrem.toNat = 1 → exec (.txData b) s =
      .next { s with txacc := c, txrem := 0, txs := .idle, answers := s.answers ++ [rspw 0 0],
                     txout := s.txout ++ [⟨b, false⟩, ⟨c.extractLsb' 0 8, false⟩, ⟨c.extractLsb' 8 8, true⟩] })

/-- R85: from `T_IDLE`, the operations of a frame are all accepted, append the octets of `build` with only the last flagged,
and leave the unit idle with the checksum that was sent; the other units are as they were. -/
def Obligations.TxFrameRefinesBuild : Prop :=
  ∀ (opc : Octet) (pin : Word) (data : List Octet) (s : State), s.txs = .idle → data.length ≤ 65528 →
    execSeq (txFrame opc pin data) s =
      .next { s with txs := .idle, txrem := 0,
                     txacc := csum s.cfg.table ((build s.cfg.table opc pin data).take (5 + data.length)),
                     txout := s.txout ++ flagLast (build s.cfg.table opc pin data),
                     answers := s.answers ++ List.replicate (1 + data.length) (rspw 0 0) }

/-- R86: `TXS` and `TXREM` move by the transition table and by nothing else, over all fourteen operations and hardware
reset. -/
def Obligations.TxTransitionsFollowTable : Prop :=
  (∀ (i : Instr) (s t : State), isOperation i = true → exec i s = .next t →
    (t.txs, t.txrem) = txTable i s.txs s.txrem) ∧
  ∀ s : State, ∃ t, runItem exec .hwReset s = .next t ∧ t.txs = .idle ∧ t.txrem = 0

/-- R105: a read-DCB request from `T_IDLE` appends the eleven octets of `read_dcb_request(pin)`, which is `build` of 0x93,
the pin and the four octets 00 00 FF FF, and nothing else but the TX unit changes. The octets appended are those of the frame
given, but for the checksum, which is the block's own (log 12). -/
def Obligations.ReadDcbRequestResult : Prop :=
  ∀ (pin sum : Word) (s : State), s.txs = .idle →
    let frame := build s.cfg.table 0x93 pin [0x00, 0x00, 0xFF, 0xFF]
    exec (.readDcbRequest pin sum) s =
      .next { s with txs := .idle, txrem := 0, txacc := csum s.cfg.table (frame.take 9),
                     txout := s.txout ++ flagLast frame, answers := s.answers ++ List.replicate 5 (rspw 0 0) } ∧
    frame = requestFrame pin (csum s.cfg.table ([0x93, 0x0B, 0x00] ++ w2b pin ++ [0x00, 0x00, 0xFF, 0xFF])) ∧
    encode (.readDcbRequest pin sum) = .frame (requestFrame pin sum)

/-! ## The response frame parser -/

/-- R90, R91, R92: when `parse` succeeds, with what, and which error it gives otherwise, the length before the checksum. -/
def Obligations.ParseOutcome : Prop :=
  ∀ (cfg : Config) (s : List Octet),
    let n := s.length
    (parse cfg s = .error .frameLengthMismatch ↔
      n < hdrSize cfg.rxHdr + 2 ∨ (b2w (octetAt s 1) (octetAt s 2)).toNat ≠ n) ∧
    (parse cfg s = .error .frameChecksumMismatch ↔
      hdrSize cfg.rxHdr + 2 ≤ n ∧ (b2w (octetAt s 1) (octetAt s 2)).toNat = n ∧
        csum cfg.table (s.take (n - 2)) ≠ b2w (octetAt s (n - 2)) (octetAt s (n - 1))) ∧
    (∀ opc data, parse cfg s = .ok (opc, data) ↔
      hdrSize cfg.rxHdr + 2 ≤ n ∧ (b2w (octetAt s 1) (octetAt s 2)).toNat = n ∧
        csum cfg.table (s.take (n - 2)) = b2w (octetAt s (n - 2)) (octetAt s (n - 1)) ∧
        opc = octetAt s 0 ∧ data = (s.drop (hdrSize cfg.rxHdr)).take (n - hdrSize cfg.rxHdr - 2))

/-- R93: `RX.START`, never refused, clears the fields of the RX unit but for the buffer. -/
def Obligations.RxStartResult : Prop :=
  encode .rxStart = .word 0x700000000000 ∧
  ∀ s : State, exec .rxStart s =
    .next { s with rxcnt := 0, rxs := .recv, rxerr := none, xds := .none, xderr := none, rxopc := 0, rxlen := 0,
                   rxsum := 0, rxcalc := 0, dlen := 0, dcblen := 0, answers := s.answers ++ [rspw 0 0] }

/-- R95: `RX.OCT` stores at index `RXCNT`, every other cell reads as before, and the count stops at 65536. -/
def Obligations.RxOctResult : Prop :=
  ∀ (b : Octet) (s : State),
    encode (.rxOct b) = .word (0x800000000000 ||| b.zeroExtend 48 <<< 32) ∧
    (s.rxs ≠ .recv → exec (.rxOct b) s =
      .next { s with ref := true, refcode := some .state, answers := s.answers ++ [rspw 2 0] }) ∧
    (s.rxs = .recv → s.rxcnt.toNat ≤ 65534 →
      ∃ buf, exec (.rxOct b) s = .next { s with rxbuf := buf, rxcnt := BitVec.ofNat 17 (s.rxcnt.toNat + 1),
                                                answers := s.answers ++ [rspw 0 0] } ∧
        ∀ i, ({ s with rxbuf := buf } : State).cell i = if i = s.rxcnt.toNat then b else s.cell i) ∧
    (s.rxs = .recv → 65534 < s.rxcnt.toNat → exec (.rxOct b) s =
      .next { s with rxcnt := 65536, answers := s.answers ++ [rspw 0 0] })

/-- R96: `RX.END` in its five cases. -/
def Obligations.RxEndResult : Prop :=
  ∀ s : State,
    let n := s.rxcnt.toNat
    let hdr := hdrSize s.cfg.rxHdr
    let declared := b2w (s.cell 1) (s.cell 2)
    let carried := b2w (s.cell (n - 2)) (s.cell (n - 1))
    let computed := csum s.cfg.table (s.cells 0 (n - 2))
    encode .rxEnd = .word 0x900000000000 ∧
    (s.rxs ≠ .recv → exec .rxEnd s =
      .next { s with ref := true, refcode := some .state, answers := s.answers ++ [rspw 2 0] }) ∧
    (s.rxs = .recv → n < hdr + 2 → exec .rxEnd s =
      .next { s with rxerr := some .frameLengthMismatch, rxs := .err, answers := s.answers ++ [rspw 0 1] }) ∧
    (s.rxs = .recv → hdr + 2 ≤ n → declared.toNat ≠ n → exec .rxEnd s =
      .next { s with rxopc := s.cell 0, rxlen := declared, rxerr := some .frameLengthMismatch, rxs := .err,
                     answers := s.answers ++ [rspw 0 1] }) ∧
    (s.rxs = .recv → hdr + 2 ≤ n → declared.toNat = n → computed ≠ carried → exec .rxEnd s =
      .next { s with rxopc := s.cell 0, rxlen := declared, rxsum := carried, rxcalc := computed,
                     rxerr := some .frameChecksumMismatch, rxs := .err, answers := s.answers ++ [rspw 0 2] }) ∧
    (s.rxs = .recv → hdr + 2 ≤ n → declared.toNat = n → computed = carried → exec .rxEnd s =
      .next { s with rxopc := s.cell 0, rxlen := declared, rxsum := carried, rxcalc := computed,
                     dlen := BitVec.ofNat 16 (n - hdr - 2), rxerr := none, rxs := .ok,
                     answers := s.answers ++ [rspw 0 0] })

/-- R97: `RX.RD i` answers octet `i` of the data and changes nothing else. The invariant rules out the states in which the
window reaches past the buffer. -/
def Obligations.RxRdResult : Prop :=
  ∀ (i : Word) (s : State),
    encode (.rxRd i) = .word (0xA00000000000 ||| i.zeroExtend 48 <<< 16) ∧
    (s.rxs ≠ .ok → exec (.rxRd i) s =
      .next { s with ref := true, refcode := some .state, answers := s.answers ++ [rspw 2 0] }) ∧
    (s.rxs = .ok → s.dlen.toNat ≤ i.toNat → exec (.rxRd i) s =
      .next { s with ref := true, refcode := some .range, answers := s.answers ++ [rspw 3 0] }) ∧
    (s.Inv → s.rxs = .ok → i.toNat < s.dlen.toNat → exec (.rxRd i) s =
      .next { s with answers := s.answers ++ [rspw 0 ((s.cell (hdrSize s.cfg.rxHdr + i.toNat)).zeroExtend 17)] })

/-- R98: `RX.START`, the octets of `s` and `RX.END` judge the sequence as `parse` does, in every state, for every length; on
success every index of the data is readable with the octet `parse` returns. -/
def Obligations.RxFrameRefinesParse : Prop :=
  ∀ (octets : List Octet) (s : State),
    ∃ t, execSeq (rxFrame octets) s = .next t ∧
      (∀ e, parse s.cfg octets = .error e →
        t.rxs = .err ∧ t.rxerr = some e ∧ t.dlen = 0 ∧
        t.answers = s.answers ++ List.replicate (1 + octets.length) (rspw 0 0) ++ [rspw 0 (e.code.zeroExtend 17)]) ∧
      (∀ opc data, parse s.cfg octets = .ok (opc, data) →
        t.rxs = .ok ∧ t.rxerr = none ∧ t.rxopc = opc ∧ t.dlen.toNat = data.length ∧
        t.answers = s.answers ++ List.replicate (2 + octets.length) (rspw 0 0) ∧
        ∀ i : Word, i.toNat < data.length →
          exec (.rxRd i) t = .next { t with answers := t.answers ++ [rspw 0 ((octetAt data i.toNat).zeroExtend 17)] })

/-- R99: `RXS` moves by the transition table and by nothing else, over all fourteen operations and hardware reset. -/
def Obligations.RxTransitionsFollowTable : Prop :=
  (∀ (i : Instr) (s t : State), isOperation i = true → exec i s = .next t →
    t.rxs = rxTable i s.rxs s.accepts) ∧
  ∀ s : State, ∃ t, runItem exec .hwReset s = .next t ∧ t.rxs = .idle

/-- R100: in `R_ERR` and in `R_RECV` both windows are shut and every window read is refused. -/
def Obligations.NothingOfRejectedFrameIsExposed : Prop :=
  ∀ s : State, s.Inv → s.rxs = .err ∨ s.rxs = .recv →
    s.dlen = 0 ∧ s.dcblen = 0 ∧
    ∀ i : Word,
      exec (.rxRd i) s = .next { s with ref := true, refcode := some .state, answers := s.answers ++ [rspw 2 0] } ∧
      exec (.xdRd i) s = .next { s with ref := true, refcode := some .state, answers := s.answers ++ [rspw 2 0] }

/-- R102: every frame the builder makes the parser accepts, with the pin among the data when `RX_HDR = 3`; then the converse
fails, since there are sequences of 5 and of 6 octets that `parse` accepts and that no `build` makes. That last clause speaks
of data of every length; beyond 65528 octets what `build` yields is the model's choice (log 20). -/
def Obligations.ParseAcceptsEveryBuild : Prop :=
  ∀ (cfg : Config) (opc : Octet),
    (∀ (pin : Word) (data : List Octet), data.length ≤ 65528 →
      parse cfg (build cfg.table opc pin data) =
        .ok (opc, match cfg.rxHdr with | .three => w2b pin ++ data | .five => data)) ∧
    (cfg.rxHdr = .three → ∀ body ∈ [[], [(0x00 : Octet)]],
      let head := [opc] ++ w2b (BitVec.ofNat 16 (5 + body.length)) ++ body
      let s := head ++ w2b (csum cfg.table head)
      parse cfg s = .ok (opc, body) ∧ ∀ opc' pin' data', build cfg.table opc' pin' data' ≠ s)

/-- R159: from the `RX.END` that opened it, no operation but `RX.START` and `BLK.RESET` shuts or moves the data window or changes
an octet of the buffer, and from the `XD.CHECK` that opened it none shuts or moves the RawDCB window; those two shut both. -/
def Obligations.AcceptedWindowLasts : Prop :=
  ∀ (i : Instr) (s t : State), s.rxs = .ok → isOperation i = true → exec i s = .next t →
    (i ≠ .rxStart → i ≠ .blkReset →
      t.rxs = .ok ∧ t.dlen = s.dlen ∧ (∀ k, t.cell k = s.cell k) ∧
      (s.Inv → s.FrameInv → s.xds = .ok → t.xds = .ok ∧ t.dcblen = s.dcblen)) ∧
    (i = .rxStart ∨ i = .blkReset → t.rxs ≠ .ok ∧ t.dlen = 0 ∧ t.xds = .none ∧ t.dcblen = 0)

/-! ## The read-DCB exchange -/

/-- R107, R109: when `check_dcb` succeeds, and which error it gives otherwise; RawDCB is the data from offset 4 onward. -/
def Obligations.CheckDcbOutcome : Prop :=
  ∀ (order : RedOrder) (opc : Octet) (data : List Octet),
    let len := data.length
    let start := b2w (octetAt data 0) (octetAt data 1)
    let inner := b2w (octetAt data 2) (octetAt data 3)
    let red := match order with
      | .le => b2w (octetAt data 4) (octetAt data 5)
      | .be => b2w (octetAt data 5) (octetAt data 4)
    (checkDcb order opc data = .error .unexpectedOpcode ↔ opc ≠ 0x94) ∧
    (checkDcb order opc data = .error .unexpectedStart ↔ opc = 0x94 ∧ (len < 2 ∨ start ≠ 0)) ∧
    (checkDcb order opc data = .error .invalidPin ↔ opc = 0x94 ∧ 4 ≤ len ∧ start = 0 ∧ inner = 0) ∧
    (checkDcb order opc data = .error .innerLengthMismatch ↔
      opc = 0x94 ∧ 2 ≤ len ∧ start = 0 ∧ (len < 4 ∨ inner ≠ 0 ∧ inner.toNat + 4 ≠ len)) ∧
    (checkDcb order opc data = .error .redundantLengthMismatch ↔
      opc = 0x94 ∧ 4 ≤ len ∧ start = 0 ∧ inner ≠ 0 ∧ inner.toNat + 4 = len ∧ (len < 6 ∨ red.toNat ≠ len - 4)) ∧
    (∀ r, checkDcb order opc data = .ok r ↔
      opc = 0x94 ∧ 6 ≤ len ∧ start = 0 ∧ inner.toNat = len - 4 ∧ red.toNat = len - 4 ∧ r = data.drop 4)

/-- R110: `XD.CHECK` applies `check_dcb` to the opcode and the data of the accepted frame and records what it says; `RXS` and
the data window stay. -/
def Obligations.XdCheckResult : Prop :=
  ∀ s : State,
    let data := s.cells (hdrSize s.cfg.rxHdr) s.dlen.toNat
    encode .xdCheck = .word 0xB00000000000 ∧
    (s.rxs ≠ .ok → exec .xdCheck s =
      .next { s with ref := true, refcode := some .state, answers := s.answers ++ [rspw 2 0] }) ∧
    (∀ e, s.rxs = .ok → checkDcb s.cfg.redOrder s.rxopc data = .error e → exec .xdCheck s =
      .next { s with xds := .err, xderr := some e, dcblen := 0, answers := s.answers ++ [rspw 0 (e.code.zeroExtend 17)] }) ∧
    (∀ r, s.rxs = .ok → checkDcb s.cfg.redOrder s.rxopc data = .ok r → exec .xdCheck s =
      .next { s with xds := .ok, xderr := none, dcblen := BitVec.ofNat 16 (s.dlen.toNat - 4),
                     answers := s.answers ++ [rspw 0 0] })

/-- R111: `XD.RD i` answers octet `i` of RawDCB and changes nothing else, and it equals `RX.RD (i + 4)` wherever both are
accepted. -/
def Obligations.XdRdResult : Prop :=
  ∀ (i : Word) (s : State),
    encode (.xdRd i) = .word (0xC00000000000 ||| i.zeroExtend 48 <<< 16) ∧
    (s.xds ≠ .ok → exec (.xdRd i) s =
      .next { s with ref := true, refcode := some .state, answers := s.answers ++ [rspw 2 0] }) ∧
    (s.xds = .ok → s.dcblen.toNat ≤ i.toNat → exec (.xdRd i) s =
      .next { s with ref := true, refcode := some .range, answers := s.answers ++ [rspw 3 0] }) ∧
    (s.Inv → s.xds = .ok → i.toNat < s.dcblen.toNat →
      exec (.xdRd i) s =
        .next { s with answers := s.answers ++ [rspw 0 ((s.cell (hdrSize s.cfg.rxHdr + 4 + i.toNat)).zeroExtend 17)] } ∧
      exec (.rxRd (i + 4)) s = exec (.xdRd i) s)

/-- R112: after a frame that `parse` accepts, `XD.CHECK` answers what `check_dcb` says; on success every index of RawDCB is
readable with its octet, on failure `XD.RD` is refused for every index. -/
def Obligations.XdCheckRefinesCheckDcb : Prop :=
  ∀ (octets : List Octet) (s : State) (opc : Octet) (data : List Octet), parse s.cfg octets = .ok (opc, data) →
    ∃ t, execSeq (xdRsp octets) s = .next t ∧
      (∀ e, checkDcb s.cfg.redOrder opc data = .error e →
        t.answers.getLast? = some (rspw 0 (e.code.zeroExtend 17)) ∧ t.xderr = some e ∧
        ∀ i : Word, exec (.xdRd i) t =
          .next { t with ref := true, refcode := some .state, answers := t.answers ++ [rspw 2 0] }) ∧
      (∀ r, checkDcb s.cfg.redOrder opc data = .ok r →
        t.answers.getLast? = some (rspw 0 0) ∧ t.dcblen.toNat = r.length ∧
        ∀ i : Word, i.toNat < r.length →
          exec (.xdRd i) t = .next { t with answers := t.answers ++ [rspw 0 ((octetAt r i.toNat).zeroExtend 17)] })

/-- That a wire frame row is an instruction that does in one step what its pseudo-operation of R58 abbreviates is the model's
choice (log 12, log 13), and so is that `XD.CHECK` is given after a frame that `RX.END` rejected too (log 13). -/
def Obligations.FrameRowsArePseudoOperations : Prop :=
  (∀ (pin sum : Word) (s : State), exec (.readDcbRequest pin sum) s =
    execSeq [.txStart 0x93 pin 4, .txData 0x00, .txData 0x00, .txData 0xFF, .txData 0xFF] s) ∧
  (∀ (octets : List Octet) (s : State), exec (.readDcbResponse octets) s =
    execSeq (.rxStart :: octets.map .rxOct ++ [.rxEnd, .xdCheck]) s)

/-- A read-DCB response completes in every state: the frame `parse` and `check_dcb` accept leaves its RawDCB in the window and
no refusal; one that `parse` rejects leaves its error in `RXERR` and a refused `XD.CHECK` (the literal expansion of R58,
log 13). -/
def Obligations.ReadDcbResponseResult : Prop :=
  ∀ (octets : List Octet) (s : State),
    ∃ t, exec (.readDcbResponse octets) s = .next t ∧
      (∀ opc data r, parse s.cfg octets = .ok (opc, data) → checkDcb s.cfg.redOrder opc data = .ok r →
        t.rxs = .ok ∧ t.xds = .ok ∧ t.dcbWindow = r ∧ t.ref = s.ref ∧ t.refcode = s.refcode) ∧
      (∀ opc data e, parse s.cfg octets = .ok (opc, data) → checkDcb s.cfg.redOrder opc data = .error e →
        t.rxs = .ok ∧ t.xds = .err ∧ t.xderr = some e ∧ t.dataWindow = data ∧ t.ref = s.ref ∧ t.refcode = s.refcode) ∧
      (∀ e, parse s.cfg octets = .error e →
        t.rxs = .err ∧ t.rxerr = some e ∧ t.xds = .none ∧ t.ref = true ∧ t.refcode = some .state) ∧
      SameTx s t ∧ SameCs s t ∧ t.txout = s.txout ∧ t.port = s.port

/-! ## System operations -/

/-- R120: `NOP`, in every state. -/
def Obligations.NopResult : Prop :=
  encode .nop = .word 0x000000000000 ∧
  ∀ s : State, exec .nop s = .next { s with answers := s.answers ++ [rspw 0 0] }

/-- R121, R22: `REG.RD` of each register number answers the register zero-extended to 17 bits and changes nothing else; every
other number is refused with `RANGE`. What each register reads as after reset stands last. -/
def Obligations.RegRdResult : Prop :=
  (∀ (r : Octet), encode (.regRd r) = .word (0xD00000000000 ||| r.zeroExtend 48 <<< 32)) ∧
  (∀ s : State,
    (∀ p ∈ [((0x00 : Octet), s.acc.toNat), (0x01, s.status.toNat), (0x02, s.txacc.toNat), (0x03, s.txrem.toNat),
            (0x04, s.rxcnt.toNat), (0x05, s.rxopc.toNat), (0x06, s.rxlen.toNat), (0x07, s.rxsum.toNat),
            (0x08, s.rxcalc.toNat), (0x09, s.dlen.toNat), (0x0A, s.dcblen.toNat)],
      exec (.regRd p.1) s = .next { s with answers := s.answers ++ [rspw 0 (BitVec.ofNat 17 p.2)] }) ∧
    (∀ r : Octet, 0x0A < r.toNat → exec (.regRd r) s =
      .next { s with ref := true, refcode := some .range, answers := s.answers ++ [rspw 3 0] })) ∧
  (∀ p ∈ [((0x00 : Octet), (0xFFFF : BitVec 17)), (0x01, 0), (0x02, 0xFFFF), (0x03, 0), (0x04, 0), (0x05, 0), (0x06, 0),
          (0x07, 0), (0x08, 0), (0x09, 0), (0x0A, 0)],
    exec (.regRd p.1) State.reset = .next { State.reset with answers := [rspw 0 p.2] })

/-- R21: the fields of `STATUS`, bit by bit; reading it changes nothing; its reset value. -/
def Obligations.StatusFields : Prop :=
  ∀ s : State,
    s.status.extractLsb' 0 1 = (match s.txs with | .idle => 0 | .data => 1) ∧
    s.status.extractLsb' 1 2 = (match s.rxs with | .idle => 0 | .recv => 1 | .ok => 2 | .err => 3) ∧
    s.status.extractLsb' 3 2 = (match s.xds with | .none => 0 | .ok => 1 | .err => 2) ∧
    s.status.extractLsb' 5 4 = (match s.rxerr with
      | none => 0 | some .frameLengthMismatch => 1 | some .frameChecksumMismatch => 2) ∧
    s.status.extractLsb' 9 4 = (match s.xderr with
      | none => 0 | some .unexpectedOpcode => 3 | some .unexpectedStart => 4 | some .invalidPin => 5
      | some .innerLengthMismatch => 6 | some .redundantLengthMismatch => 7) ∧
    s.status.extractLsb' 13 1 = (if s.ref then 1 else 0) ∧
    s.status.extractLsb' 14 2 = (match s.refcode with
      | none => 0 | some .illegal => 1 | some .state => 2 | some .range => 3) ∧
    exec (.regRd 0x01) s = .next { s with answers := s.answers ++ [rspw 0 (s.status.zeroExtend 17)] } ∧
    State.reset.status = 0x0000

/-- R51: the fields of a response word. -/
def Obligations.ResponseWordFields : Prop :=
  ∀ (rc : BitVec 2) (val : BitVec 17), (rspw rc val).extractLsb' 17 2 = rc ∧ (rspw rc val).extractLsb' 0 17 = val ∧
    okWord val = rspw 0 val ∧ refusedWord .illegal = rspw 1 0 ∧ refusedWord .state = rspw 2 0 ∧
    refusedWord .range = rspw 3 0

/-! ## Refusals -/

/-- R136, R137: an operation is refused exactly when the refusal table says so and for the reason it gives, a word that is no
operation is refused with `ILLEGAL`, and on a refusal nothing changes but `REF` and `REFCODE`. Otherwise the operation answers
`RC = 0` and leaves both alone, but for `BLK.RESET`, which clears them. -/
def Obligations.RefusalsFollowTable : Prop :=
  (∀ (i : Instr) (s t : State), isOperation i = true → exec i s = .next t →
    (∀ r, refusalOf i s = some r →
      t = { s with ref := true, refcode := some r, answers := s.answers ++ [rspw r.code 0] }) ∧
    (refusalOf i s = none → (∃ v, t.answers = s.answers ++ [rspw 0 v]) ∧
      if i = .blkReset then t.ref = false ∧ t.refcode = none else t.ref = s.ref ∧ t.refcode = s.refcode)) ∧
  (∀ (w : CmdWord) (s : State), decodeWord w = none → runItem exec (.word w) s =
    .next { s with ref := true, refcode := some .illegal, answers := s.answers ++ [rspw 1 0] })

/-- R20: `REF` is sticky: once set, no step but a reset clears it. -/
def Obligations.RefIsSticky : Prop :=
  ∀ s t : State, s.ref = true → step s = .next t →
    t.ref = true ∨ s.port.head? = some .hwReset ∨ s.port.head? = some (.word 0xE00000000000)

/-! ## The block as a whole -/

/-- R10: an operation of one unit writes no register of another unit, emits only if it is the TX unit's, and what it does and
answers depends on the registers of its own unit alone. -/
def Obligations.UnitsAreIndependent : Prop :=
  ∀ (i : Instr) (s t : State), unitOf i ≠ .none → exec i s = .next t →
    (unitOf i ≠ .cs → SameCs s t) ∧ (unitOf i ≠ .tx → SameTx s t ∧ t.txout = s.txout) ∧ (unitOf i ≠ .rx → SameRx s t) ∧
    ∀ s' : State, SameUnit (unitOf i) s s' →
      ∃ t', exec i s' = .next t' ∧ SameUnit (unitOf i) t t' ∧
        ∃ words pairs, t.answers = s.answers ++ words ∧ t'.answers = s'.answers ++ words ∧
          t.txout = s.txout ++ pairs ∧ t'.txout = s'.txout ++ pairs

/-- R34, R84: no step removes from `TXOUT`, and only a TX instruction adds to it. -/
def Obligations.TxoutOnlyGrows : Prop :=
  (∀ s t : State, step s = .next t → s.txout <+: t.txout) ∧
  (∀ (i : Instr) (s t : State), exec i s = .next t → unitOf i ≠ .tx → t.txout = s.txout)

/-- R30: `RXBUF` is written only by `RX.OCT` (and by the row that gives several of them); reset leaves it unspecified. -/
def Obligations.BufferIsWrittenOnlyByRxOct : Prop :=
  ∀ (i : Instr) (s t : State), exec i s = .next t → (∀ b, i ≠ .rxOct b) → (∀ o, i ≠ .readDcbResponse o) → i ≠ .blkReset →
    ∀ k, t.cell k = s.cell k

/-- R24: no step changes the configuration. -/
def Obligations.ConfigurationIsFixed : Prop := ∀ s t : State, step s = .next t → t.cfg = s.cfg

/-- R25 holds of the state after power-on reset, for every configuration and every port. -/
def Obligations.InvariantHoldsAtReset : Prop :=
  State.reset.Inv ∧ ∀ (cfg : Config) (port : List PortItem), (boot cfg port).Inv

/-- R25: every step keeps the invariant, with `RXBUF` in canonical form. -/
def Obligations.StepKeepsInvariant : Prop := ∀ s t : State, s.Inv → step s = .next t → t.Inv

/-- R142: from a state that meets the invariant a step never stops: the block never traps, hangs or refuses a meaning. -/
def Obligations.StepAlwaysAnswers : Prop := ∀ s : State, s.Inv → ∃ t, step s = .next t

/-- The model stops in three places, all outside the states of R25, by its own choice: `TX.DATA` in a frame with nothing owed
(log 9), and a window read whose index reaches a cell that does not exist (log 8). -/
def Obligations.StopsStandOutsideTheInvariant : Prop :=
  (∀ (b : Octet) (s : State), s.txs = .data → s.txrem = 0 → exec (.txData b) s = .fault .nothingOwed ∧ ¬ s.Inv) ∧
  (∀ (i : Word) (s : State), s.rxs = .ok → i.toNat < s.dlen.toNat → 65535 ≤ hdrSize s.cfg.rxHdr + i.toNat →
    exec (.rxRd i) s = .fault (.noSuchCell (hdrSize s.cfg.rxHdr + i.toNat)) ∧ ¬ s.Inv) ∧
  (∀ (i : Word) (s : State), s.xds = .ok → i.toNat < s.dcblen.toNat → 65535 ≤ hdrSize s.cfg.rxHdr + 4 + i.toNat →
    exec (.xdRd i) s = .fault (.noSuchCell (hdrSize s.cfg.rxHdr + 4 + i.toNat)) ∧ ¬ s.Inv)

/-- R33: no operation observes a cell that no `RX.OCT` has written since the last `RX.START`. From two states that differ only
in such cells every instruction gives the same answer and the same registers, and the two states after it differ only so. -/
def Obligations.StaleCellsAreUnobservable : Prop :=
  ∀ (i : Instr) (s s' t : State), s.Inv → SameButStale s s' → exec i s = .next t →
    ∃ t', exec i s' = .next t' ∧ SameButStale t t'

/-- R13 and R110: every step keeps the Frame invariant of an accepted frame: what the registers hold is what `parse` and
`check_dcb` say of the octets in `RXBUF`. -/
def Obligations.StepKeepsFrameInvariant : Prop :=
  ∀ s t : State, s.Inv → s.FrameInv → step s = .next t → t.FrameInv

/-- R25, R142: from power-on, whatever the configuration and whatever the host gives, the block runs for any number of steps
without stopping and meets both invariants at the end. -/
def Obligations.EveryRunMeetsInvariants : Prop :=
  ∀ (cfg : Config) (port : List PortItem) (k : Nat),
    ∃ t, Host.Core.run Sys2Proof.core k (boot cfg port) = .next t ∧ Machine.State.Inv t ∧ Machine.State.FrameInv t
end

