-- ==== Sys2Proof/Laws/Decode.lean ====
section
/-! SUPPORT. The fields of a command word (`30_encoding.md` R50): each reads back what a word was made of, and a word with
`Z = 0` is made of its fields. -/

namespace Sys2Proof

variable (op : Nibble) (a8 : Octet) (b16 c16 : Word)

@[simp] theorem opField_opw : opField (opw op a8 b16 c16) = op := by
  apply BitVec.eq_of_getLsbD_eq
  intro k hk
  simp only [opField, opw, BitVec.getLsbD_extractLsb', BitVec.getLsbD_append]
  interval_cases k <;> simp

@[simp] theorem zField_opw : zField (opw op a8 b16 c16) = 0 := by
  apply BitVec.eq_of_getLsbD_eq
  intro k hk
  simp only [zField, opw, BitVec.getLsbD_extractLsb', BitVec.getLsbD_append]
  interval_cases k <;> simp

@[simp] theorem a8Field_opw : a8Field (opw op a8 b16 c16) = a8 := by
  apply BitVec.eq_of_getLsbD_eq
  intro k hk
  simp only [a8Field, opw, BitVec.getLsbD_extractLsb', BitVec.getLsbD_append]
  interval_cases k <;> simp

@[simp] theorem b16Field_opw : b16Field (opw op a8 b16 c16) = b16 := by
  apply BitVec.eq_of_getLsbD_eq
  intro k hk
  simp only [b16Field, opw, BitVec.getLsbD_extractLsb', BitVec.getLsbD_append]
  interval_cases k <;> simp

@[simp] theorem c16Field_opw : c16Field (opw op a8 b16 c16) = c16 := by
  apply BitVec.eq_of_getLsbD_eq
  intro k hk
  simp only [c16Field, opw, BitVec.getLsbD_extractLsb', BitVec.getLsbD_append]
  interval_cases k <;> simp

/-- A word with `Z = 0` is made of its fields. -/
theorem opw_fields (w : CmdWord) (h : zField w = 0) : opw (opField w) (a8Field w) (b16Field w) (c16Field w) = w := by
  rw [opw, ← h]
  apply BitVec.eq_of_getLsbD_eq
  intro k hk
  simp only [opField, zField, a8Field, b16Field, c16Field, BitVec.getLsbD_extractLsb', BitVec.getLsbD_append]
  interval_cases k <;> simp

end Sys2Proof
end

