-- ==== Sys2Proof/Laws/State.lean ====
section
/-! SUPPORT. Each field after each named update of the state: one lemma a field, true by definition. -/

namespace Sys2Proof.Machine.State

variable (s : State)

/-! ### `answer` -/

@[simp] theorem answer_cfg (w : Response) : (s.answer w).cfg = s.cfg := rfl
@[simp] theorem answer_acc (w : Response) : (s.answer w).acc = s.acc := rfl
@[simp] theorem answer_txs (w : Response) : (s.answer w).txs = s.txs := rfl
@[simp] theorem answer_txacc (w : Response) : (s.answer w).txacc = s.txacc := rfl
@[simp] theorem answer_txrem (w : Response) : (s.answer w).txrem = s.txrem := rfl
@[simp] theorem answer_rxs (w : Response) : (s.answer w).rxs = s.rxs := rfl
@[simp] theorem answer_rxcnt (w : Response) : (s.answer w).rxcnt = s.rxcnt := rfl
@[simp] theorem answer_rxopc (w : Response) : (s.answer w).rxopc = s.rxopc := rfl
@[simp] theorem answer_rxlen (w : Response) : (s.answer w).rxlen = s.rxlen := rfl
@[simp] theorem answer_rxsum (w : Response) : (s.answer w).rxsum = s.rxsum := rfl
@[simp] theorem answer_rxcalc (w : Response) : (s.answer w).rxcalc = s.rxcalc := rfl
@[simp] theorem answer_dlen (w : Response) : (s.answer w).dlen = s.dlen := rfl
@[simp] theorem answer_rxerr (w : Response) : (s.answer w).rxerr = s.rxerr := rfl
@[simp] theorem answer_xds (w : Response) : (s.answer w).xds = s.xds := rfl
@[simp] theorem answer_xderr (w : Response) : (s.answer w).xderr = s.xderr := rfl
@[simp] theorem answer_dcblen (w : Response) : (s.answer w).dcblen = s.dcblen := rfl
@[simp] theorem answer_ref (w : Response) : (s.answer w).ref = s.ref := rfl
@[simp] theorem answer_refcode (w : Response) : (s.answer w).refcode = s.refcode := rfl
@[simp] theorem answer_rxbuf (w : Response) : (s.answer w).rxbuf = s.rxbuf := rfl
@[simp] theorem answer_rxEpoch (w : Response) : (s.answer w).rxEpoch = s.rxEpoch := rfl
@[simp] theorem answer_txout (w : Response) : (s.answer w).txout = s.txout := rfl
@[simp] theorem answer_port (w : Response) : (s.answer w).port = s.port := rfl
@[simp] theorem answer_answers (w : Response) : (s.answer w).answers = s.answers ++ [w] := rfl

/-! ### `ok` -/

@[simp] theorem ok_cfg (v : BitVec 17) : (s.ok v).cfg = s.cfg := rfl
@[simp] theorem ok_acc (v : BitVec 17) : (s.ok v).acc = s.acc := rfl
@[simp] theorem ok_txs (v : BitVec 17) : (s.ok v).txs = s.txs := rfl
@[simp] theorem ok_txacc (v : BitVec 17) : (s.ok v).txacc = s.txacc := rfl
@[simp] theorem ok_txrem (v : BitVec 17) : (s.ok v).txrem = s.txrem := rfl
@[simp] theorem ok_rxs (v : BitVec 17) : (s.ok v).rxs = s.rxs := rfl
@[simp] theorem ok_rxcnt (v : BitVec 17) : (s.ok v).rxcnt = s.rxcnt := rfl
@[simp] theorem ok_rxopc (v : BitVec 17) : (s.ok v).rxopc = s.rxopc := rfl
@[simp] theorem ok_rxlen (v : BitVec 17) : (s.ok v).rxlen = s.rxlen := rfl
@[simp] theorem ok_rxsum (v : BitVec 17) : (s.ok v).rxsum = s.rxsum := rfl
@[simp] theorem ok_rxcalc (v : BitVec 17) : (s.ok v).rxcalc = s.rxcalc := rfl
@[simp] theorem ok_dlen (v : BitVec 17) : (s.ok v).dlen = s.dlen := rfl
@[simp] theorem ok_rxerr (v : BitVec 17) : (s.ok v).rxerr = s.rxerr := rfl
@[simp] theorem ok_xds (v : BitVec 17) : (s.ok v).xds = s.xds := rfl
@[simp] theorem ok_xderr (v : BitVec 17) : (s.ok v).xderr = s.xderr := rfl
@[simp] theorem ok_dcblen (v : BitVec 17) : (s.ok v).dcblen = s.dcblen := rfl
@[simp] theorem ok_ref (v : BitVec 17) : (s.ok v).ref = s.ref := rfl
@[simp] theorem ok_refcode (v : BitVec 17) : (s.ok v).refcode = s.refcode := rfl
@[simp] theorem ok_rxbuf (v : BitVec 17) : (s.ok v).rxbuf = s.rxbuf := rfl
@[simp] theorem ok_rxEpoch (v : BitVec 17) : (s.ok v).rxEpoch = s.rxEpoch := rfl
@[simp] theorem ok_txout (v : BitVec 17) : (s.ok v).txout = s.txout := rfl
@[simp] theorem ok_port (v : BitVec 17) : (s.ok v).port = s.port := rfl
@[simp] theorem ok_answers (v : BitVec 17) : (s.ok v).answers = s.answers ++ [okWord v] := rfl

/-! ### `refuse` -/

@[simp] theorem refuse_cfg (r : Reason) : (s.refuse r).cfg = s.cfg := rfl
@[simp] theorem refuse_acc (r : Reason) : (s.refuse r).acc = s.acc := rfl
@[simp] theorem refuse_txs (r : Reason) : (s.refuse r).txs = s.txs := rfl
@[simp] theorem refuse_txacc (r : Reason) : (s.refuse r).txacc = s.txacc := rfl
@[simp] theorem refuse_txrem (r : Reason) : (s.refuse r).txrem = s.txrem := rfl
@[simp] theorem refuse_rxs (r : Reason) : (s.refuse r).rxs = s.rxs := rfl
@[simp] theorem refuse_rxcnt (r : Reason) : (s.refuse r).rxcnt = s.rxcnt := rfl
@[simp] theorem refuse_rxopc (r : Reason) : (s.refuse r).rxopc = s.rxopc := rfl
@[simp] theorem refuse_rxlen (r : Reason) : (s.refuse r).rxlen = s.rxlen := rfl
@[simp] theorem refuse_rxsum (r : Reason) : (s.refuse r).rxsum = s.rxsum := rfl
@[simp] theorem refuse_rxcalc (r : Reason) : (s.refuse r).rxcalc = s.rxcalc := rfl
@[simp] theorem refuse_dlen (r : Reason) : (s.refuse r).dlen = s.dlen := rfl
@[simp] theorem refuse_rxerr (r : Reason) : (s.refuse r).rxerr = s.rxerr := rfl
@[simp] theorem refuse_xds (r : Reason) : (s.refuse r).xds = s.xds := rfl
@[simp] theorem refuse_xderr (r : Reason) : (s.refuse r).xderr = s.xderr := rfl
@[simp] theorem refuse_dcblen (r : Reason) : (s.refuse r).dcblen = s.dcblen := rfl
@[simp] theorem refuse_ref (r : Reason) : (s.refuse r).ref = true := rfl
@[simp] theorem refuse_refcode (r : Reason) : (s.refuse r).refcode = some r := rfl
@[simp] theorem refuse_rxbuf (r : Reason) : (s.refuse r).rxbuf = s.rxbuf := rfl
@[simp] theorem refuse_rxEpoch (r : Reason) : (s.refuse r).rxEpoch = s.rxEpoch := rfl
@[simp] theorem refuse_txout (r : Reason) : (s.refuse r).txout = s.txout := rfl
@[simp] theorem refuse_port (r : Reason) : (s.refuse r).port = s.port := rfl
@[simp] theorem refuse_answers (r : Reason) : (s.refuse r).answers = s.answers ++ [refusedWord r] := rfl

/-! ### `emit` -/

@[simp] theorem emit_cfg (ps : List TxPair) : (s.emit ps).cfg = s.cfg := rfl
@[simp] theorem emit_acc (ps : List TxPair) : (s.emit ps).acc = s.acc := rfl
@[simp] theorem emit_txs (ps : List TxPair) : (s.emit ps).txs = s.txs := rfl
@[simp] theorem emit_txacc (ps : List TxPair) : (s.emit ps).txacc = s.txacc := rfl
@[simp] theorem emit_txrem (ps : List TxPair) : (s.emit ps).txrem = s.txrem := rfl
@[simp] theorem emit_rxs (ps : List TxPair) : (s.emit ps).rxs = s.rxs := rfl
@[simp] theorem emit_rxcnt (ps : List TxPair) : (s.emit ps).rxcnt = s.rxcnt := rfl
@[simp] theorem emit_rxopc (ps : List TxPair) : (s.emit ps).rxopc = s.rxopc := rfl
@[simp] theorem emit_rxlen (ps : List TxPair) : (s.emit ps).rxlen = s.rxlen := rfl
@[simp] theorem emit_rxsum (ps : List TxPair) : (s.emit ps).rxsum = s.rxsum := rfl
@[simp] theorem emit_rxcalc (ps : List TxPair) : (s.emit ps).rxcalc = s.rxcalc := rfl
@[simp] theorem emit_dlen (ps : List TxPair) : (s.emit ps).dlen = s.dlen := rfl
@[simp] theorem emit_rxerr (ps : List TxPair) : (s.emit ps).rxerr = s.rxerr := rfl
@[simp] theorem emit_xds (ps : List TxPair) : (s.emit ps).xds = s.xds := rfl
@[simp] theorem emit_xderr (ps : List TxPair) : (s.emit ps).xderr = s.xderr := rfl
@[simp] theorem emit_dcblen (ps : List TxPair) : (s.emit ps).dcblen = s.dcblen := rfl
@[simp] theorem emit_ref (ps : List TxPair) : (s.emit ps).ref = s.ref := rfl
@[simp] theorem emit_refcode (ps : List TxPair) : (s.emit ps).refcode = s.refcode := rfl
@[simp] theorem emit_rxbuf (ps : List TxPair) : (s.emit ps).rxbuf = s.rxbuf := rfl
@[simp] theorem emit_rxEpoch (ps : List TxPair) : (s.emit ps).rxEpoch = s.rxEpoch := rfl
@[simp] theorem emit_txout (ps : List TxPair) : (s.emit ps).txout = s.txout ++ ps := rfl
@[simp] theorem emit_port (ps : List TxPair) : (s.emit ps).port = s.port := rfl
@[simp] theorem emit_answers (ps : List TxPair) : (s.emit ps).answers = s.answers := rfl

/-! ### `setCell` -/

@[simp] theorem setCell_cfg (i : Nat) (b : Octet) : (s.setCell i b).cfg = s.cfg := rfl
@[simp] theorem setCell_acc (i : Nat) (b : Octet) : (s.setCell i b).acc = s.acc := rfl
@[simp] theorem setCell_txs (i : Nat) (b : Octet) : (s.setCell i b).txs = s.txs := rfl
@[simp] theorem setCell_txacc (i : Nat) (b : Octet) : (s.setCell i b).txacc = s.txacc := rfl
@[simp] theorem setCell_txrem (i : Nat) (b : Octet) : (s.setCell i b).txrem = s.txrem := rfl
@[simp] theorem setCell_rxs (i : Nat) (b : Octet) : (s.setCell i b).rxs = s.rxs := rfl
@[simp] theorem setCell_rxcnt (i : Nat) (b : Octet) : (s.setCell i b).rxcnt = s.rxcnt := rfl
@[simp] theorem setCell_rxopc (i : Nat) (b : Octet) : (s.setCell i b).rxopc = s.rxopc := rfl
@[simp] theorem setCell_rxlen (i : Nat) (b : Octet) : (s.setCell i b).rxlen = s.rxlen := rfl
@[simp] theorem setCell_rxsum (i : Nat) (b : Octet) : (s.setCell i b).rxsum = s.rxsum := rfl
@[simp] theorem setCell_rxcalc (i : Nat) (b : Octet) : (s.setCell i b).rxcalc = s.rxcalc := rfl
@[simp] theorem setCell_dlen (i : Nat) (b : Octet) : (s.setCell i b).dlen = s.dlen := rfl
@[simp] theorem setCell_rxerr (i : Nat) (b : Octet) : (s.setCell i b).rxerr = s.rxerr := rfl
@[simp] theorem setCell_xds (i : Nat) (b : Octet) : (s.setCell i b).xds = s.xds := rfl
@[simp] theorem setCell_xderr (i : Nat) (b : Octet) : (s.setCell i b).xderr = s.xderr := rfl
@[simp] theorem setCell_dcblen (i : Nat) (b : Octet) : (s.setCell i b).dcblen = s.dcblen := rfl
@[simp] theorem setCell_ref (i : Nat) (b : Octet) : (s.setCell i b).ref = s.ref := rfl
@[simp] theorem setCell_refcode (i : Nat) (b : Octet) : (s.setCell i b).refcode = s.refcode := rfl
@[simp] theorem setCell_rxbuf (i : Nat) (b : Octet) : (s.setCell i b).rxbuf = Memory.write s.rxbuf i b := rfl
@[simp] theorem setCell_rxEpoch (i : Nat) (b : Octet) : (s.setCell i b).rxEpoch = s.rxEpoch := rfl
@[simp] theorem setCell_txout (i : Nat) (b : Octet) : (s.setCell i b).txout = s.txout := rfl
@[simp] theorem setCell_port (i : Nat) (b : Octet) : (s.setCell i b).port = s.port := rfl
@[simp] theorem setCell_answers (i : Nat) (b : Octet) : (s.setCell i b).answers = s.answers := rfl

/-! ### `rxFail` -/

@[simp] theorem rxFail_cfg (e : FrameError) : (s.rxFail e).cfg = s.cfg := rfl
@[simp] theorem rxFail_acc (e : FrameError) : (s.rxFail e).acc = s.acc := rfl
@[simp] theorem rxFail_txs (e : FrameError) : (s.rxFail e).txs = s.txs := rfl
@[simp] theorem rxFail_txacc (e : FrameError) : (s.rxFail e).txacc = s.txacc := rfl
@[simp] theorem rxFail_txrem (e : FrameError) : (s.rxFail e).txrem = s.txrem := rfl
@[simp] theorem rxFail_rxs (e : FrameError) : (s.rxFail e).rxs = .err := rfl
@[simp] theorem rxFail_rxcnt (e : FrameError) : (s.rxFail e).rxcnt = s.rxcnt := rfl
@[simp] theorem rxFail_rxopc (e : FrameError) : (s.rxFail e).rxopc = s.rxopc := rfl
@[simp] theorem rxFail_rxlen (e : FrameError) : (s.rxFail e).rxlen = s.rxlen := rfl
@[simp] theorem rxFail_rxsum (e : FrameError) : (s.rxFail e).rxsum = s.rxsum := rfl
@[simp] theorem rxFail_rxcalc (e : FrameError) : (s.rxFail e).rxcalc = s.rxcalc := rfl
@[simp] theorem rxFail_dlen (e : FrameError) : (s.rxFail e).dlen = s.dlen := rfl
@[simp] theorem rxFail_rxerr (e : FrameError) : (s.rxFail e).rxerr = some e := rfl
@[simp] theorem rxFail_xds (e : FrameError) : (s.rxFail e).xds = s.xds := rfl
@[simp] theorem rxFail_xderr (e : FrameError) : (s.rxFail e).xderr = s.xderr := rfl
@[simp] theorem rxFail_dcblen (e : FrameError) : (s.rxFail e).dcblen = s.dcblen := rfl
@[simp] theorem rxFail_ref (e : FrameError) : (s.rxFail e).ref = s.ref := rfl
@[simp] theorem rxFail_refcode (e : FrameError) : (s.rxFail e).refcode = s.refcode := rfl
@[simp] theorem rxFail_rxbuf (e : FrameError) : (s.rxFail e).rxbuf = s.rxbuf := rfl
@[simp] theorem rxFail_rxEpoch (e : FrameError) : (s.rxFail e).rxEpoch = s.rxEpoch := rfl
@[simp] theorem rxFail_txout (e : FrameError) : (s.rxFail e).txout = s.txout := rfl
@[simp] theorem rxFail_port (e : FrameError) : (s.rxFail e).port = s.port := rfl
@[simp] theorem rxFail_answers (e : FrameError) : (s.rxFail e).answers = s.answers ++ [okWord (e.code.zeroExtend 17)] := rfl

/-! ### `xdFail` -/

@[simp] theorem xdFail_cfg (e : DcbError) : (s.xdFail e).cfg = s.cfg := rfl
@[simp] theorem xdFail_acc (e : DcbError) : (s.xdFail e).acc = s.acc := rfl
@[simp] theorem xdFail_txs (e : DcbError) : (s.xdFail e).txs = s.txs := rfl
@[simp] theorem xdFail_txacc (e : DcbError) : (s.xdFail e).txacc = s.txacc := rfl
@[simp] theorem xdFail_txrem (e : DcbError) : (s.xdFail e).txrem = s.txrem := rfl
@[simp] theorem xdFail_rxs (e : DcbError) : (s.xdFail e).rxs = s.rxs := rfl
@[simp] theorem xdFail_rxcnt (e : DcbError) : (s.xdFail e).rxcnt = s.rxcnt := rfl
@[simp] theorem xdFail_rxopc (e : DcbError) : (s.xdFail e).rxopc = s.rxopc := rfl
@[simp] theorem xdFail_rxlen (e : DcbError) : (s.xdFail e).rxlen = s.rxlen := rfl
@[simp] theorem xdFail_rxsum (e : DcbError) : (s.xdFail e).rxsum = s.rxsum := rfl
@[simp] theorem xdFail_rxcalc (e : DcbError) : (s.xdFail e).rxcalc = s.rxcalc := rfl
@[simp] theorem xdFail_dlen (e : DcbError) : (s.xdFail e).dlen = s.dlen := rfl
@[simp] theorem xdFail_rxerr (e : DcbError) : (s.xdFail e).rxerr = s.rxerr := rfl
@[simp] theorem xdFail_xds (e : DcbError) : (s.xdFail e).xds = .err := rfl
@[simp] theorem xdFail_xderr (e : DcbError) : (s.xdFail e).xderr = some e := rfl
@[simp] theorem xdFail_dcblen (e : DcbError) : (s.xdFail e).dcblen = 0 := rfl
@[simp] theorem xdFail_ref (e : DcbError) : (s.xdFail e).ref = s.ref := rfl
@[simp] theorem xdFail_refcode (e : DcbError) : (s.xdFail e).refcode = s.refcode := rfl
@[simp] theorem xdFail_rxbuf (e : DcbError) : (s.xdFail e).rxbuf = s.rxbuf := rfl
@[simp] theorem xdFail_rxEpoch (e : DcbError) : (s.xdFail e).rxEpoch = s.rxEpoch := rfl
@[simp] theorem xdFail_txout (e : DcbError) : (s.xdFail e).txout = s.txout := rfl
@[simp] theorem xdFail_port (e : DcbError) : (s.xdFail e).port = s.port := rfl
@[simp] theorem xdFail_answers (e : DcbError) : (s.xdFail e).answers = s.answers ++ [okWord (e.code.zeroExtend 17)] := rfl

/-! ### `rxOpen` -/

@[simp] theorem rxOpen_cfg : (s.rxOpen).cfg = s.cfg := rfl
@[simp] theorem rxOpen_acc : (s.rxOpen).acc = s.acc := rfl
@[simp] theorem rxOpen_txs : (s.rxOpen).txs = s.txs := rfl
@[simp] theorem rxOpen_txacc : (s.rxOpen).txacc = s.txacc := rfl
@[simp] theorem rxOpen_txrem : (s.rxOpen).txrem = s.txrem := rfl
@[simp] theorem rxOpen_rxs : (s.rxOpen).rxs = .recv := rfl
@[simp] theorem rxOpen_rxcnt : (s.rxOpen).rxcnt = 0 := rfl
@[simp] theorem rxOpen_rxopc : (s.rxOpen).rxopc = 0 := rfl
@[simp] theorem rxOpen_rxlen : (s.rxOpen).rxlen = 0 := rfl
@[simp] theorem rxOpen_rxsum : (s.rxOpen).rxsum = 0 := rfl
@[simp] theorem rxOpen_rxcalc : (s.rxOpen).rxcalc = 0 := rfl
@[simp] theorem rxOpen_dlen : (s.rxOpen).dlen = 0 := rfl
@[simp] theorem rxOpen_rxerr : (s.rxOpen).rxerr = none := rfl
@[simp] theorem rxOpen_xds : (s.rxOpen).xds = .none := rfl
@[simp] theorem rxOpen_xderr : (s.rxOpen).xderr = none := rfl
@[simp] theorem rxOpen_dcblen : (s.rxOpen).dcblen = 0 := rfl
@[simp] theorem rxOpen_ref : (s.rxOpen).ref = s.ref := rfl
@[simp] theorem rxOpen_refcode : (s.rxOpen).refcode = s.refcode := rfl
@[simp] theorem rxOpen_rxbuf : (s.rxOpen).rxbuf = s.rxbuf := rfl
@[simp] theorem rxOpen_rxEpoch : (s.rxOpen).rxEpoch = s.rxEpoch := rfl
@[simp] theorem rxOpen_txout : (s.rxOpen).txout = s.txout := rfl
@[simp] theorem rxOpen_port : (s.rxOpen).port = s.port := rfl
@[simp] theorem rxOpen_answers : (s.rxOpen).answers = s.answers := rfl

/-! ### `blockReset` -/

@[simp] theorem blockReset_cfg : (s.blockReset).cfg = s.cfg := rfl
@[simp] theorem blockReset_acc : (s.blockReset).acc = 0xFFFF := rfl
@[simp] theorem blockReset_txs : (s.blockReset).txs = .idle := rfl
@[simp] theorem blockReset_txacc : (s.blockReset).txacc = 0xFFFF := rfl
@[simp] theorem blockReset_txrem : (s.blockReset).txrem = 0 := rfl
@[simp] theorem blockReset_rxs : (s.blockReset).rxs = .idle := rfl
@[simp] theorem blockReset_rxcnt : (s.blockReset).rxcnt = 0 := rfl
@[simp] theorem blockReset_rxopc : (s.blockReset).rxopc = 0 := rfl
@[simp] theorem blockReset_rxlen : (s.blockReset).rxlen = 0 := rfl
@[simp] theorem blockReset_rxsum : (s.blockReset).rxsum = 0 := rfl
@[simp] theorem blockReset_rxcalc : (s.blockReset).rxcalc = 0 := rfl
@[simp] theorem blockReset_dlen : (s.blockReset).dlen = 0 := rfl
@[simp] theorem blockReset_rxerr : (s.blockReset).rxerr = none := rfl
@[simp] theorem blockReset_xds : (s.blockReset).xds = .none := rfl
@[simp] theorem blockReset_xderr : (s.blockReset).xderr = none := rfl
@[simp] theorem blockReset_dcblen : (s.blockReset).dcblen = 0 := rfl
@[simp] theorem blockReset_ref : (s.blockReset).ref = false := rfl
@[simp] theorem blockReset_refcode : (s.blockReset).refcode = none := rfl
@[simp] theorem blockReset_rxbuf : (s.blockReset).rxbuf = [] := rfl
@[simp] theorem blockReset_rxEpoch : (s.blockReset).rxEpoch = s.rxEpoch + 1 := rfl
@[simp] theorem blockReset_txout : (s.blockReset).txout = s.txout := rfl
@[simp] theorem blockReset_port : (s.blockReset).port = s.port := rfl
@[simp] theorem blockReset_answers : (s.blockReset).answers = s.answers := rfl

/-! ### `endFrame` -/

@[simp] theorem endFrame_cfg : (s.endFrame).cfg = s.cfg := rfl
@[simp] theorem endFrame_acc : (s.endFrame).acc = s.acc := rfl
@[simp] theorem endFrame_txs : (s.endFrame).txs = .idle := rfl
@[simp] theorem endFrame_txacc : (s.endFrame).txacc = s.txacc := rfl
@[simp] theorem endFrame_txrem : (s.endFrame).txrem = 0 := rfl
@[simp] theorem endFrame_rxs : (s.endFrame).rxs = s.rxs := rfl
@[simp] theorem endFrame_rxcnt : (s.endFrame).rxcnt = s.rxcnt := rfl
@[simp] theorem endFrame_rxopc : (s.endFrame).rxopc = s.rxopc := rfl
@[simp] theorem endFrame_rxlen : (s.endFrame).rxlen = s.rxlen := rfl
@[simp] theorem endFrame_rxsum : (s.endFrame).rxsum = s.rxsum := rfl
@[simp] theorem endFrame_rxcalc : (s.endFrame).rxcalc = s.rxcalc := rfl
@[simp] theorem endFrame_dlen : (s.endFrame).dlen = s.dlen := rfl
@[simp] theorem endFrame_rxerr : (s.endFrame).rxerr = s.rxerr := rfl
@[simp] theorem endFrame_xds : (s.endFrame).xds = s.xds := rfl
@[simp] theorem endFrame_xderr : (s.endFrame).xderr = s.xderr := rfl
@[simp] theorem endFrame_dcblen : (s.endFrame).dcblen = s.dcblen := rfl
@[simp] theorem endFrame_ref : (s.endFrame).ref = s.ref := rfl
@[simp] theorem endFrame_refcode : (s.endFrame).refcode = s.refcode := rfl
@[simp] theorem endFrame_rxbuf : (s.endFrame).rxbuf = s.rxbuf := rfl
@[simp] theorem endFrame_rxEpoch : (s.endFrame).rxEpoch = s.rxEpoch := rfl
@[simp] theorem endFrame_txout : (s.endFrame).txout = s.txout ++ flagLast (w2b s.txacc) := rfl
@[simp] theorem endFrame_port : (s.endFrame).port = s.port := rfl
@[simp] theorem endFrame_answers : (s.endFrame).answers = s.answers := rfl

/-! ### `give` -/

@[simp] theorem give_cfg (item : PortItem) : (s.give item).cfg = s.cfg := rfl
@[simp] theorem give_acc (item : PortItem) : (s.give item).acc = s.acc := rfl
@[simp] theorem give_txs (item : PortItem) : (s.give item).txs = s.txs := rfl
@[simp] theorem give_txacc (item : PortItem) : (s.give item).txacc = s.txacc := rfl
@[simp] theorem give_txrem (item : PortItem) : (s.give item).txrem = s.txrem := rfl
@[simp] theorem give_rxs (item : PortItem) : (s.give item).rxs = s.rxs := rfl
@[simp] theorem give_rxcnt (item : PortItem) : (s.give item).rxcnt = s.rxcnt := rfl
@[simp] theorem give_rxopc (item : PortItem) : (s.give item).rxopc = s.rxopc := rfl
@[simp] theorem give_rxlen (item : PortItem) : (s.give item).rxlen = s.rxlen := rfl
@[simp] theorem give_rxsum (item : PortItem) : (s.give item).rxsum = s.rxsum := rfl
@[simp] theorem give_rxcalc (item : PortItem) : (s.give item).rxcalc = s.rxcalc := rfl
@[simp] theorem give_dlen (item : PortItem) : (s.give item).dlen = s.dlen := rfl
@[simp] theorem give_rxerr (item : PortItem) : (s.give item).rxerr = s.rxerr := rfl
@[simp] theorem give_xds (item : PortItem) : (s.give item).xds = s.xds := rfl
@[simp] theorem give_xderr (item : PortItem) : (s.give item).xderr = s.xderr := rfl
@[simp] theorem give_dcblen (item : PortItem) : (s.give item).dcblen = s.dcblen := rfl
@[simp] theorem give_ref (item : PortItem) : (s.give item).ref = s.ref := rfl
@[simp] theorem give_refcode (item : PortItem) : (s.give item).refcode = s.refcode := rfl
@[simp] theorem give_rxbuf (item : PortItem) : (s.give item).rxbuf = s.rxbuf := rfl
@[simp] theorem give_rxEpoch (item : PortItem) : (s.give item).rxEpoch = s.rxEpoch := rfl
@[simp] theorem give_txout (item : PortItem) : (s.give item).txout = s.txout := rfl
@[simp] theorem give_port (item : PortItem) : (s.give item).port = item :: s.port := rfl
@[simp] theorem give_answers (item : PortItem) : (s.give item).answers = s.answers := rfl

end Sys2Proof.Machine.State
end

