-- ==== Sys2Proof/Laws/Memory.lean ====
section
/-! SUPPORT. The receive buffer: read after write, and the canonical form kept by every operation on it. -/

namespace Sys2Proof.Machine

theorem Memory.lookup_write (m : Memory) (i j : Nat) (b : Octet) :
    Memory.lookup (Memory.write m i b) j = if j = i then some b else Memory.lookup m j := by
  induction m with
  | nil => simp [Memory.write, Memory.lookup, eq_comm]
  | cons kv rest ih =>
    obtain ⟨k, v⟩ := kv
    simp only [Memory.write]
    split
    · simp [Memory.lookup, eq_comm]
    · split
      · next h => subst h; simp only [Memory.lookup, eq_comm]; split <;> simp_all
      · simp only [Memory.lookup, ih]
        split <;> split <;> simp_all

theorem Memory.wfFrom_write (m : Memory) (low i : Nat) (b : Octet) (hlow : low ≤ i) (hi : i < cellCount)
    (h : Memory.wfFrom low m = true) : Memory.wfFrom low (Memory.write m i b) = true := by
  induction m generalizing low with
  | nil => simp [Memory.write, Memory.wfFrom, hlow, hi]
  | cons kv rest ih =>
    obtain ⟨k, v⟩ := kv
    simp only [Memory.wfFrom, Bool.and_eq_true, decide_eq_true_eq] at h
    obtain ⟨⟨hk, hc⟩, hr⟩ := h
    simp only [Memory.write]
    split
    · simp [Memory.wfFrom, hlow, hi, hc, hr]; omega
    · split
      · next h => subst h; simp [Memory.wfFrom, hlow, hi, hr]
      · simp [Memory.wfFrom, hk, hc, ih (k + 1) (by omega) hr]

/-- A write to an existing cell keeps the canonical form. -/
theorem Memory.wf_write (m : Memory) (i : Nat) (b : Octet) (hi : i < cellCount) (h : Memory.wf m = true) :
    Memory.wf (Memory.write m i b) = true := Memory.wfFrom_write m 0 i b (Nat.zero_le i) hi h

/-- The buffer after reset is in canonical form. -/
@[simp] theorem Memory.wf_nil : Memory.wf [] = true := rfl

/-- Reading a cell after a write to one. -/
theorem State.cell_setCell (s : State) (i j : Nat) (b : Octet) :
    (s.setCell i b).cell j = if j = i then b else s.cell j := by
  simp only [State.cell, State.setCell_rxbuf, State.setCell_rxEpoch, Memory.lookup_write]
  by_cases h : j = i <;> simp [h]

/-- A cell depends on the buffer and the count of resets alone. -/
theorem State.cell_congr (s t : State) (hb : t.rxbuf = s.rxbuf) (he : t.rxEpoch = s.rxEpoch) (i : Nat) :
    t.cell i = s.cell i := by
  simp only [State.cell, hb, he]

theorem State.cells_congr (s t : State) (hb : t.rxbuf = s.rxbuf) (he : t.rxEpoch = s.rxEpoch) (start len : Nat) :
    t.cells start len = s.cells start len := by
  simp only [State.cells, State.cell_congr s t hb he]

@[simp] theorem State.length_cells (s : State) (start len : Nat) : (s.cells start len).length = len := by
  simp [State.cells]

theorem State.octetAt_cells (s : State) (start len i : Nat) (h : i < len) :
    octetAt (s.cells start len) i = s.cell (start + i) := by
  simp [octetAt, State.cells, h]

theorem State.take_cells (s : State) (start len n : Nat) (h : n ≤ len) :
    (s.cells start len).take n = s.cells start n := by
  simp [State.cells, ← List.map_take, List.take_range, Nat.min_eq_left h]

theorem State.drop_cells (s : State) (start len n : Nat) :
    (s.cells start len).drop n = s.cells (start + n) (len - n) := by
  apply List.ext_getElem
  · simp
  · intro i h1 h2
    simp [State.cells, Nat.add_assoc]

end Sys2Proof.Machine
end

