-- ==== Sys2Proof/Laws/Ops.lean ====
section
/-! SUPPORT. What each shared operation can do, said once: the port, one operation after another, the window read. -/

namespace Sys2Proof.Machine

/-! ## One operation after another -/

@[simp] theorem andThen_next (s : State) (f : State → Host.Outcome State Fault Refusal) : andThen (.next s) f = f s := rfl

@[simp] theorem andThen_fault (r : Fault) (f : State → Host.Outcome State Fault Refusal) :
    andThen (.fault r) f = .fault r := rfl

@[simp] theorem andThen_refused (r : Refusal) (f : State → Host.Outcome State Fault Refusal) :
    andThen (.refused r) f = .refused r := rfl

theorem andThen_eq_next (o : Host.Outcome State Fault Refusal) (f : State → Host.Outcome State Fault Refusal) (t : State) :
    andThen o f = .next t ↔ ∃ s, o = .next s ∧ f s = .next t := by
  cases o <;> simp

theorem andThen_assoc (o : Host.Outcome State Fault Refusal) (f g : State → Host.Outcome State Fault Refusal) :
    andThen (andThen o f) g = andThen o fun s => andThen (f s) g := by
  cases o <;> rfl

@[simp] theorem execSeq_nil (s : State) : execSeq [] s = .next s := rfl

theorem execSeq_cons (i : Instr) (rest : List Instr) (s : State) :
    execSeq (i :: rest) s = andThen (exec i s) (execSeq rest) := rfl

@[simp] theorem execSeq_single (i : Instr) (s : State) : execSeq [i] s = exec i s := by
  rw [execSeq_cons]; cases exec i s <;> rfl

theorem execSeq_append (a b : List Instr) (s : State) : execSeq (a ++ b) s = andThen (execSeq a s) (execSeq b) := by
  induction a generalizing s with
  | nil => rfl
  | cons i rest ih =>
    simp only [List.cons_append, execSeq_cons, andThen_assoc, funext ih]

/-- The octets a request sends are `TX.DATA` operations. -/
theorem sendData_eq (data : List Octet) (s : State) : sendData data s = execSeq (data.map .txData) s := by
  induction data generalizing s with
  | nil => rfl
  | cons b rest ih => simp only [sendData, List.map_cons, execSeq_cons, funext ih]; rfl

/-- The octets a response receives are `RX.OCT` operations. -/
theorem receive_eq (octets : List Octet) (s : State) : receive octets s = execSeq (octets.map .rxOct) s := by
  induction octets generalizing s with
  | nil => rfl
  | cons b rest ih => simp only [receive, List.map_cons, execSeq_cons, funext ih]; rfl

/-! ## The port -/

theorem fetch_eq_none (s : State) : s.fetch = none ↔ s.port = [] := by
  simp only [State.fetch]; split <;> simp_all

theorem fetch_cons (s : State) (item : PortItem) (rest : List PortItem) (h : s.port = item :: rest) :
    s.fetch = some (item, { s with port := rest }) := by
  simp only [State.fetch, h]

/-- Everything an item can do: reset the block, run the instruction it decodes to, or be refused. -/
theorem runItem_cases (run : Instr → State → Host.Outcome State Fault Refusal) (item : PortItem) (s : State) :
    (item = .hwReset ∧ runItem run item s = .next s.blockReset) ∨
    (∃ i, decode item = some i ∧ runItem run item s = run i s) ∨
    (item ≠ .hwReset ∧ decode item = none ∧ runItem run item s = .next (s.refuse .illegal)) := by
  cases item with
  | hwReset => exact .inl ⟨rfl, rfl⟩
  | word w =>
    right
    cases h : decodeWord w with
    | some i => exact .inl ⟨i, h, by simp only [runItem, h]⟩
    | none => exact .inr ⟨by simp, h, by simp only [runItem, h]⟩
  | frame octets =>
    right
    cases h : decodeFrame octets with
    | some i => exact .inl ⟨i, h, by simp only [runItem, h]⟩
    | none => exact .inr ⟨by simp, h, by simp only [runItem, h]⟩

/-- Everything a step can do. -/
theorem step_cases (s : State) :
    (s.port = [] ∧ step s = .next s) ∨
    ∃ item rest, s.port = item :: rest ∧
      ((item = .hwReset ∧ step s = .next ({ s with port := rest } : State).blockReset) ∨
       (∃ i, decode item = some i ∧ step s = exec i { s with port := rest }) ∨
       (item ≠ .hwReset ∧ decode item = none ∧ step s = .next (({ s with port := rest } : State).refuse .illegal))) := by
  cases hp : s.port with
  | nil => exact .inl ⟨rfl, by simp only [step, (fetch_eq_none s).mpr hp]⟩
  | cons item rest =>
    refine .inr ⟨item, rest, rfl, ?_⟩
    have hs : step s = runItem exec item { s with port := rest } := by
      simp only [step, fetch_cons s item rest hp]
    rw [hs]
    exact runItem_cases exec item _

/-! ## The window read -/

/-- A window read answers a cell of the buffer and changes nothing else, or stops past its end. -/
theorem readCell_cases (s : State) (index : Nat) :
    (index < cellCount ∧ s.readCell index = .next (s.ok ((s.cell index).zeroExtend 17))) ∨
    (cellCount ≤ index ∧ s.readCell index = .fault (.noSuchCell index)) := by
  unfold State.readCell
  split
  · exact .inl ⟨‹_›, rfl⟩
  · exact .inr ⟨by omega, rfl⟩

end Sys2Proof.Machine
end

