-- ==== Sys2Proof/Laws/Exec.lean ====
section
/-! SUPPORT. What each meaning can do, said once: one lemma for each meaning with more than one way to go on. -/

namespace Sys2Proof.Machine

/-- The state `TX.START` leaves when it opens a frame, before `TXREM` and `TXS` are set. -/
def txHeaderState (opc : Octet) (pin dlen : Word) (s : State) : State :=
  let h := frameHeader opc (BitVec.ofNat 16 (7 + dlen.toNat)) pin
  { s with txacc := csum s.cfg.table h }.emit (midFrame h)

theorem execTxStart_cases (opc : Octet) (pin dlen : Word) (s : State) :
    (s.txs ≠ .idle ∧ execTxStart opc pin dlen s = .next (s.refuse .state)) ∨
    (s.txs = .idle ∧ maxData < dlen.toNat ∧ execTxStart opc pin dlen s = .next (s.refuse .range)) ∨
    (s.txs = .idle ∧ dlen = 0 ∧
      execTxStart opc pin dlen s = .next ((txHeaderState opc pin dlen s).endFrame.ok 0)) ∨
    (s.txs = .idle ∧ dlen ≠ 0 ∧ dlen.toNat ≤ maxData ∧
      execTxStart opc pin dlen s = .next ({ txHeaderState opc pin dlen s with txrem := dlen, txs := .data }.ok 0)) := by
  unfold execTxStart
  by_cases h1 : s.txs = .idle
  · by_cases h2 : maxData < dlen.toNat
    · exact .inr (.inl ⟨h1, h2, by rw [if_neg (not_not.mpr h1), if_pos h2]⟩)
    · rw [if_neg (not_not.mpr h1), if_neg h2]
      by_cases h3 : dlen = 0
      · exact .inr (.inr (.inl ⟨h1, h3, if_pos h3⟩))
      · exact .inr (.inr (.inr ⟨h1, h3, by omega, if_neg h3⟩))
  · exact .inl ⟨h1, if_pos h1⟩

/-- The state `TX.DATA` leaves before a complete frame is ended. -/
def txDataState (b : Octet) (s : State) : State :=
  { s with txacc := octStep s.cfg.table s.txacc b, txrem := s.txrem - 1 }.emit (midFrame [b])

theorem execTxData_cases (b : Octet) (s : State) :
    (s.txs ≠ .data ∧ execTxData b s = .next (s.refuse .state)) ∨
    (s.txs = .data ∧ s.txrem = 0 ∧ execTxData b s = .fault .nothingOwed) ∨
    (s.txs = .data ∧ s.txrem = 1 ∧ execTxData b s = .next ((txDataState b s).endFrame.ok 0)) ∨
    (s.txs = .data ∧ 2 ≤ s.txrem.toNat ∧ execTxData b s = .next ((txDataState b s).ok 0)) := by
  unfold execTxData
  by_cases h1 : s.txs = .data
  · rw [if_neg (not_not.mpr h1)]
    by_cases h2 : s.txrem = 0
    · exact .inr (.inl ⟨h1, h2, if_pos h2⟩)
    · rw [if_neg h2]
      have h0 : s.txrem.toNat ≠ 0 := fun h => h2 (BitVec.eq_of_toNat_eq h)
      by_cases h3 : s.txrem = 1
      · exact .inr (.inr (.inl ⟨h1, h3, if_pos (by simp [h3])⟩))
      · have h4 : s.txrem.toNat ≠ 1 := fun h => h3 (BitVec.eq_of_toNat_eq h)
        refine .inr (.inr (.inr ⟨h1, by omega, if_neg fun h => ?_⟩))
        have h5 : s.txrem - 1 = 0 := h
        have := congrArg BitVec.toNat h5
        simp [BitVec.toNat_sub] at this
        omega
  · exact .inl ⟨h1, if_pos h1⟩

theorem execRxOct_cases (b : Octet) (s : State) :
    (s.rxs ≠ .recv ∧ execRxOct b s = .next (s.refuse .state)) ∨
    (s.rxs = .recv ∧ s.rxcnt.toNat ≤ 65534 ∧
      execRxOct b s = .next ({ s.setCell s.rxcnt.toNat b with rxcnt := s.rxcnt + 1 }.ok 0)) ∨
    (s.rxs = .recv ∧ 65534 < s.rxcnt.toNat ∧ execRxOct b s = .next ({ s with rxcnt := 65536 }.ok 0)) := by
  unfold execRxOct
  by_cases h1 : s.rxs = .recv
  · rw [if_neg (not_not.mpr h1)]
    by_cases h2 : s.rxcnt.toNat ≤ 65534
    · exact .inr (.inl ⟨h1, h2, if_pos h2⟩)
    · exact .inr (.inr ⟨h1, by omega, if_neg h2⟩)
  · exact .inl ⟨h1, if_pos h1⟩

/-- The state `RX.END` leaves once the opcode and the declared length are read. -/
def rxHeadState (s : State) : State := { s with rxopc := s.cell 0, rxlen := b2w (s.cell 1) (s.cell 2) }

/-- The state `RX.END` leaves once both checksums are known. -/
def rxSumState (s : State) : State :=
  { rxHeadState s with rxsum := b2w (s.cell (s.rxcnt.toNat - 2)) (s.cell (s.rxcnt.toNat - 1)),
                       rxcalc := csum s.cfg.table (s.cells 0 (s.rxcnt.toNat - 2)) }

theorem execRxEnd_cases (s : State) :
    (s.rxs ≠ .recv ∧ execRxEnd s = .next (s.refuse .state)) ∨
    (s.rxs = .recv ∧ s.rxcnt.toNat < hdrSize s.cfg.rxHdr + 2 ∧ execRxEnd s = .next (s.rxFail .frameLengthMismatch)) ∨
    (s.rxs = .recv ∧ hdrSize s.cfg.rxHdr + 2 ≤ s.rxcnt.toNat ∧ (rxHeadState s).rxlen.toNat ≠ s.rxcnt.toNat ∧
      execRxEnd s = .next ((rxHeadState s).rxFail .frameLengthMismatch)) ∨
    (s.rxs = .recv ∧ hdrSize s.cfg.rxHdr + 2 ≤ s.rxcnt.toNat ∧ (rxHeadState s).rxlen.toNat = s.rxcnt.toNat ∧
      (rxSumState s).rxcalc ≠ (rxSumState s).rxsum ∧
      execRxEnd s = .next ((rxSumState s).rxFail .frameChecksumMismatch)) ∨
    (s.rxs = .recv ∧ hdrSize s.cfg.rxHdr + 2 ≤ s.rxcnt.toNat ∧ (rxHeadState s).rxlen.toNat = s.rxcnt.toNat ∧
      (rxSumState s).rxcalc = (rxSumState s).rxsum ∧
      execRxEnd s = .next ({ rxSumState s with
        dlen := BitVec.ofNat 16 (s.rxcnt.toNat - hdrSize s.cfg.rxHdr - 2), rxerr := none, rxs := .ok }.ok 0)) := by
  unfold execRxEnd
  by_cases h1 : s.rxs = .recv
  · rw [if_neg (not_not.mpr h1)]
    by_cases h2 : s.rxcnt.toNat < hdrSize s.cfg.rxHdr + 2
    · exact .inr (.inl ⟨h1, h2, if_pos h2⟩)
    · simp only [if_neg h2]
      by_cases h3 : (rxHeadState s).rxlen.toNat = s.rxcnt.toNat
      · by_cases h4 : (rxSumState s).rxcalc = (rxSumState s).rxsum
        · exact .inr (.inr (.inr (.inr ⟨h1, by omega, h3, h4,
            (if_neg (not_not.mpr h3)).trans (if_neg (not_not.mpr h4))⟩)))
        · exact .inr (.inr (.inr (.inl ⟨h1, by omega, h3, h4,
            (if_neg (not_not.mpr h3)).trans (if_pos h4)⟩)))
      · exact .inr (.inr (.inl ⟨h1, by omega, h3, if_pos h3⟩))
  · exact .inl ⟨h1, if_pos h1⟩

theorem execRxRd_cases (i : Word) (s : State) :
    (s.rxs ≠ .ok ∧ execRxRd i s = .next (s.refuse .state)) ∨
    (s.rxs = .ok ∧ s.dlen.toNat ≤ i.toNat ∧ execRxRd i s = .next (s.refuse .range)) ∨
    (s.rxs = .ok ∧ i.toNat < s.dlen.toNat ∧ execRxRd i s = s.readCell (s.dataBase + i.toNat)) := by
  unfold execRxRd
  by_cases h1 : s.rxs = .ok
  · rw [if_neg (not_not.mpr h1)]
    by_cases h2 : i.toNat ≥ s.dlen.toNat
    · exact .inr (.inl ⟨h1, h2, if_pos h2⟩)
    · exact .inr (.inr ⟨h1, by omega, if_neg h2⟩)
  · exact .inl ⟨h1, if_pos h1⟩

theorem execXdRd_cases (i : Word) (s : State) :
    (s.xds ≠ .ok ∧ execXdRd i s = .next (s.refuse .state)) ∨
    (s.xds = .ok ∧ s.dcblen.toNat ≤ i.toNat ∧ execXdRd i s = .next (s.refuse .range)) ∨
    (s.xds = .ok ∧ i.toNat < s.dcblen.toNat ∧ execXdRd i s = s.readCell (s.dcbBase + i.toNat)) := by
  unfold execXdRd
  by_cases h1 : s.xds = .ok
  · rw [if_neg (not_not.mpr h1)]
    by_cases h2 : i.toNat ≥ s.dcblen.toNat
    · exact .inr (.inl ⟨h1, h2, if_pos h2⟩)
    · exact .inr (.inr ⟨h1, by omega, if_neg h2⟩)
  · exact .inl ⟨h1, if_pos h1⟩

/-- What the checks of `check_dcb` say of the frame in the buffer. -/
def dcbVerdict (s : State) : Option DcbError :=
  dcbCheck s.cfg.redOrder s.rxopc s.dlen.toNat fun i => s.cell (s.dataBase + i)

theorem execXdCheck_cases (s : State) :
    (s.rxs ≠ .ok ∧ execXdCheck s = .next (s.refuse .state)) ∨
    (∃ e, s.rxs = .ok ∧ dcbVerdict s = some e ∧ execXdCheck s = .next (s.xdFail e)) ∨
    (s.rxs = .ok ∧ dcbVerdict s = none ∧
      execXdCheck s = .next ({ s with xds := .ok, xderr := none, dcblen := s.dlen - 4 }.ok 0)) := by
  unfold execXdCheck
  by_cases h1 : s.rxs = .ok
  · rw [if_neg (not_not.mpr h1)]
    cases h2 : dcbVerdict s with
    | some e => exact .inr (.inl ⟨e, h1, rfl, by simp only [dcbVerdict] at h2; rw [h2]⟩)
    | none => exact .inr (.inr ⟨h1, rfl, by simp only [dcbVerdict] at h2; rw [h2]⟩)
  · exact .inl ⟨h1, if_pos h1⟩

/-- The checks depend on the octets of the data alone, not on how they are given. -/
theorem dcbCheck_congr (order : RedOrder) (opcode : Octet) (len : Nat) (d e : Nat → Octet)
    (h : ∀ i < len, d i = e i) : dcbCheck order opcode len d = dcbCheck order opcode len e := by
  unfold dcbCheck
  by_cases h2 : len < 2
  · simp [h2]
  · rw [h 0 (by omega), h 1 (by omega)]
    by_cases h4 : len < 4
    · simp [h4]
    · rw [h 2 (by omega), h 3 (by omega)]
      by_cases h6 : len < 6
      · simp [h6]
      · rw [h 4 (by omega), h 5 (by omega)]

/-- What the checks say of the frame is what they say of its data window. -/
theorem dcbVerdict_eq (s : State) :
    dcbVerdict s = dcbCheck s.cfg.redOrder s.rxopc s.dataWindow.length (octetAt s.dataWindow) := by
  unfold dcbVerdict State.dataWindow
  rw [State.length_cells]
  exact dcbCheck_congr _ _ _ _ _ fun i hi => (State.octetAt_cells s _ _ i hi).symm

theorem execRegRd_cases (r : Octet) (s : State) :
    (∃ v, r.toNat ≤ 0x0A ∧ s.register r = some v ∧ execRegRd r s = .next (s.ok v)) ∨
    (0x0A < r.toNat ∧ execRegRd r s = .next (s.refuse .range)) := by
  have hn : s.register r = none ↔ 0x0A < r.toNat := by
    unfold State.register
    split <;> simp_all
    omega
  unfold execRegRd
  cases h : s.register r with
  | some v => exact .inl ⟨v, by simp [h] at hn; omega, rfl, rfl⟩
  | none => exact .inr ⟨hn.mp h, rfl⟩

end Sys2Proof.Machine
end

