-- ==== Sys2Proof/Laws/PerInstr.lean ====
section
/-! SUPPORT. Statements for all instructions, made for each: an instruction's encoding stands in the row of its own
mnemonic. -/

namespace Sys2Proof.Laws.RowMatch

/-- The command word of an operation is selected by a row of R53 with its mnemonic, and by no row of another; the octets of a
well-formed wire frame begin with the opcode of its type (`30_encoding.md` R47, R52, R53). -/
def Statement (i : Instr) : Prop :=
  match encode i with
  | .word w => (∃ r ∈ opRows, r.mnemonic = i.mnemonic ∧ r.selects w = true) ∧
      ∀ r ∈ opRows, r.selects w = true → r.mnemonic = i.mnemonic
  | .frame octets =>
      i.wf = true → octets.head? = some 0x93 ∧ i.mnemonic = "READ_DCB_REQUEST" ∨
        octets.head? = some 0x94 ∧ i.mnemonic = "READ_DCB_RESPONSE"
  | .hwReset => False

/-- A row selects only words with the row's own operation code. -/
theorem opField_of_selects (r : OpRow) (hr : r ∈ opRows) (w : CmdWord) (h : r.selects w = true) :
    opField w = opField r.pattern := by
  have hm : opField r.mask = 0xF := (by decide : ∀ r ∈ opRows, opField r.mask = 0xF) r hr
  have he : w &&& r.mask = r.pattern := by simpa [OpRow.selects] using h
  rw [← he]
  have : opField (w &&& r.mask) = opField w &&& opField r.mask := by
    simp only [opField, BitVec.extractLsb'_and]
  rw [this, hm]
  exact (BitVec.and_allOnes (x := opField w)).symm

/-- Where the row of an operation code selects a word, no other row does. -/
theorem of_row (w : CmdWord) (m : String) (r : OpRow) (hr : r ∈ opRows) (hs : r.selects w = true) (hm : r.mnemonic = m) :
    (∃ r ∈ opRows, r.mnemonic = m ∧ r.selects w = true) ∧ ∀ r ∈ opRows, r.selects w = true → r.mnemonic = m := by
  refine ⟨⟨r, hr, hm, hs⟩, fun r' hr' hs' => ?_⟩
  have h := (opField_of_selects r' hr' w hs').symm.trans (opField_of_selects r hr w hs)
  have key : ∀ a ∈ opRows, ∀ b ∈ opRows, opField a.pattern = opField b.pattern → a.mnemonic = b.mnemonic := by decide
  exact (key r' hr' r hr h).trans hm

/-- The mask of a row leaves of a word what the row fixes. -/
theorem opw_and (op : Nibble) (a8 : Octet) (b16 c16 : Word) (mo mz : Nibble) (ma : Octet) (mb mc : Word) :
    opw op a8 b16 c16 &&& (mo ++ mz ++ ma ++ mb ++ mc) = opw (op &&& mo) (a8 &&& ma) (b16 &&& mb) (c16 &&& mc) := by
  apply BitVec.eq_of_getLsbD_eq
  intro k hk
  simp only [opw, BitVec.getLsbD_and, BitVec.getLsbD_append]
  split_ifs <;> simp

theorem nop : Statement .nop := of_row _ _ opRows[0] (by decide) (by decide) rfl
theorem csInit : Statement .csInit := of_row _ _ opRows[1] (by decide) (by decide) rfl

theorem csNib (n : Nibble) : Statement (.csNib n) := by
  refine of_row _ _ opRows[2] (by decide) ?_ rfl
  revert n; decide

theorem csOct (b : Octet) : Statement (.csOct b) := by
  refine of_row _ _ opRows[3] (by decide) ?_ rfl
  have h := opw_and 3 b 0 0 0xF 0xF 0 0xFFFF 0xFFFF
  simpa [OpRow.selects, opRows, opw] using h

theorem txStart (opc : Octet) (pin dlen : Word) : Statement (.txStart opc pin dlen) := by
  refine of_row _ _ opRows[4] (by decide) ?_ rfl
  have h := opw_and 4 opc pin dlen 0xF 0xF 0 0 0
  simpa [OpRow.selects, opRows, opw] using h

theorem txData (b : Octet) : Statement (.txData b) := by
  refine of_row _ _ opRows[5] (by decide) ?_ rfl
  have h := opw_and 5 b 0 0 0xF 0xF 0 0xFFFF 0xFFFF
  simpa [OpRow.selects, opRows, opw] using h

theorem rxStart : Statement .rxStart := of_row _ _ opRows[6] (by decide) (by decide) rfl

theorem rxOct (b : Octet) : Statement (.rxOct b) := by
  refine of_row _ _ opRows[7] (by decide) ?_ rfl
  have h := opw_and 8 b 0 0 0xF 0xF 0 0xFFFF 0xFFFF
  simpa [OpRow.selects, opRows, opw] using h

theorem rxEnd : Statement .rxEnd := of_row _ _ opRows[8] (by decide) (by decide) rfl

theorem rxRd (i : Word) : Statement (.rxRd i) := by
  refine of_row _ _ opRows[9] (by decide) ?_ rfl
  have h := opw_and 0xA 0 i 0 0xF 0xF 0xFF 0 0xFFFF
  simpa [OpRow.selects, opRows, opw] using h

theorem xdCheck : Statement .xdCheck := of_row _ _ opRows[10] (by decide) (by decide) rfl

theorem xdRd (i : Word) : Statement (.xdRd i) := by
  refine of_row _ _ opRows[11] (by decide) ?_ rfl
  have h := opw_and 0xC 0 i 0 0xF 0xF 0xFF 0 0xFFFF
  simpa [OpRow.selects, opRows, opw] using h

theorem regRd (r : Octet) : Statement (.regRd r) := by
  refine of_row _ _ opRows[12] (by decide) ?_ rfl
  have h := opw_and 0xD r 0 0 0xF 0xF 0 0xFFFF 0xFFFF
  simpa [OpRow.selects, opRows, opw] using h

theorem blkReset : Statement .blkReset := of_row _ _ opRows[13] (by decide) (by decide) rfl
theorem readDcbRequest (pin sum : Word) : Statement (.readDcbRequest pin sum) := fun _ => .inl ⟨rfl, rfl⟩
theorem readDcbResponse (octets : List Octet) : Statement (.readDcbResponse octets) := fun h =>
  .inr ⟨by simpa [Instr.wf] using h, rfl⟩

end Sys2Proof.Laws.RowMatch
end

