-- ==== Sys2Proof/Machine/Text.lean ====
section
/-! DEFINITION. The textual form of an operation and of an answer (`30_encoding.md` R57), and of the two pseudo-operations that
are rows of the table (R58). No meaning depends on it. -/

namespace Sys2Proof.Machine

def hexDigit (n : Nat) : Char := "0123456789ABCDEF".toList.getD n '0'

/-- Two hexadecimal digits. -/
def hexOctet (b : Octet) : List Char := [hexDigit (b.toNat / 16), hexDigit (b.toNat % 16)]

/-- An octet, nibble, wire opcode or register number: hexadecimal with `0x`. -/
def octetText (b : Octet) : List Char := "0x".toList ++ hexOctet b

def decimalDigits : Nat → Nat → List Char → List Char
  | 0, _, rest => rest
  | fuel + 1, n, rest =>
    let rest := hexDigit (n % 10) :: rest
    if n < 10 then rest else decimalDigits fuel (n / 10) rest

/-- The pin, an index, a length or a value: decimal. Every one is below 1000000. -/
def decimalText (n : Nat) : List Char := decimalDigits 6 n []

/-- Operands are separated by commas. -/
def operandsText : List (List Char) → List Char
  | [] => []
  | [a] => ' ' :: a
  | a :: rest => ' ' :: a ++ ',' :: operandsText rest

/-- An octet sequence: two-digit hexadecimal octets separated by spaces (`00_scope.md` R6). -/
def sequenceText (octets : List Octet) : List Char :=
  '[' :: (octets.map hexOctet).foldr (fun a rest => if rest = [']'] then a ++ rest else a ++ ' ' :: rest) [']']

/-- The mnemonic of R53, or of the pseudo-operation, followed by the operands. -/
def instrText : Instr → List Char
  | .nop => "NOP".toList
  | .csInit => "CS.INIT".toList
  | .csNib n => "CS.NIB".toList ++ operandsText [['0', 'x', hexDigit n.toNat]]
  | .csOct b => "CS.OCT".toList ++ operandsText [octetText b]
  | .txStart opc pin dlen =>
    "TX.START".toList ++ operandsText [octetText opc, decimalText pin.toNat, decimalText dlen.toNat]
  | .txData b => "TX.DATA".toList ++ operandsText [octetText b]
  | .rxStart => "RX.START".toList
  | .rxOct b => "RX.OCT".toList ++ operandsText [octetText b]
  | .rxEnd => "RX.END".toList
  | .rxRd i => "RX.RD".toList ++ operandsText [decimalText i.toNat]
  | .xdCheck => "XD.CHECK".toList
  | .xdRd i => "XD.RD".toList ++ operandsText [decimalText i.toNat]
  | .regRd r => "REG.RD".toList ++ operandsText [octetText r]
  | .blkReset => "BLK.RESET".toList
  | .readDcbRequest pin _ => "XD.REQ".toList ++ operandsText [decimalText pin.toNat]
  | .readDcbResponse octets => "XD.RSP".toList ++ operandsText [sequenceText octets]

/-- `=> v` or `=> refuse(CODE)`. -/
def answerText (w : Response) : List Char :=
  match (w.extractLsb' 17 2).toNat with
  | 0 => "=> ".toList ++ decimalText (w.extractLsb' 0 17).toNat
  | 1 => "=> refuse(ILLEGAL)".toList
  | 2 => "=> refuse(STATE)".toList
  | _ => "=> refuse(RANGE)".toList

end Sys2Proof.Machine
end

