-- ==== Sys2Proof/Tests/Slice0.lean ====
section
/-! SUPPORT. The model's own tests. Every expected value is one of `spec/95_test_vectors.md` or of a rule's own example; the
section is named. A witness shows that the hypotheses of a statement are met. -/

namespace Sys2Proof.Tests

open Sys2Proof Sys2Proof.Machine

/-! ## Well-formedness -/

theorem test_wf_refuses_empty_response : (Instr.readDcbResponse []).wf = false := by decide
theorem test_wf_refuses_request_octets : (Instr.readDcbResponse [0x93, 0x0B]).wf = false := by decide
theorem test_wf_allows_short_response : (Instr.readDcbResponse [0x94]).wf = true := by decide

/-! ## Decoding: words of section 2.10 and fields of `30_encoding.md` R53, written out -/

theorem test_decode_nop : decodeWord 0x000000000000 = some .nop := by decide
theorem test_decode_csInit : decodeWord (0x1#4 ++ 0x0#4 ++ 0x00#8 ++ 0x0000#16 ++ 0x0000#16) = some .csInit := by decide
theorem test_decode_csNib : decodeWord (0x2#4 ++ 0x0#4 ++ 0x09#8 ++ 0x0000#16 ++ 0x0000#16) = some (.csNib 0x9) := by decide
theorem test_decode_csOct : decodeWord 0x309300000000 = some (.csOct 0x93) := by decide
theorem test_decode_txStart :
    decodeWord (0x4#4 ++ 0x0#4 ++ 0x93#8 ++ 0x04D2#16 ++ 0x0004#16) = some (.txStart 0x93 1234 4) := by decide
theorem test_decode_txStart_every_operand_bit : decodeWord 0x40FFFFFFFFFF = some (.txStart 0xFF 0xFFFF 65535) := by decide
theorem test_decode_txData : decodeWord (0x5#4 ++ 0x0#4 ++ 0xFF#8 ++ 0x0000#16 ++ 0x0000#16) = some (.txData 0xFF) := by decide
theorem test_decode_rxStart : decodeWord 0x700000000000 = some .rxStart := by decide
theorem test_decode_rxOct : decodeWord 0x809400000000 = some (.rxOct 0x94) := by decide
theorem test_decode_rxEnd : decodeWord 0x900000000000 = some .rxEnd := by decide
theorem test_decode_rxRd : decodeWord (0xA#4 ++ 0x0#4 ++ 0x00#8 ++ 0x000B#16 ++ 0x0000#16) = some (.rxRd 11) := by decide
theorem test_decode_xdCheck : decodeWord 0xB00000000000 = some .xdCheck := by decide
theorem test_decode_xdRd : decodeWord (0xC#4 ++ 0x0#4 ++ 0x00#8 ++ 0x0007#16 ++ 0x0000#16) = some (.xdRd 7) := by decide
theorem test_decode_regRd : decodeWord 0xD0FF00000000 = some (.regRd 0xFF) := by decide
theorem test_decode_blkReset : decodeWord 0xE00000000000 = some .blkReset := by decide

/-- Frame B1 of section 2.5. -/
theorem test_decode_readDcbRequest :
    decodeFrame [0x93, 0x0B, 0x00, 0xD2, 0x04, 0x00, 0x00, 0xFF, 0xFF, 0x28, 0xB4] =
      some (.readDcbRequest 0x04D2 0xB428) := by decide

/-- Frame F11 of section 2.6. -/
theorem test_decode_readDcbResponse :
    decodeFrame [0x94, 0x05, 0x00, 0x90, 0x97] = some (.readDcbResponse [0x94, 0x05, 0x00, 0x90, 0x97]) := by decide

/-- The illegal words of section 2.10. -/
theorem test_decode_illegal :
    [(0x600000000000 : CmdWord), 0xF00000000000, 0xFFFFFFFFFFFF, 0x000100000000, 0x000000000001, 0x010000000000,
     0x310000000000, 0x201F00000000, 0x309300010000, 0x509300000001, 0xA00100000000, 0xA00000000001,
     0xE00000000001].all (fun w => decodeWord w == none) = true := by decide

theorem test_decodeTableWord :
    decodeTableWord 48 0xD00100000000 = some (.regRd 0x01) ∧ decodeTableWord 48 0x600000000000 = none ∧
    decodeTableWord 8 0x93 = some (.readDcbRequest 0 0) ∧ decodeTableWord 8 0x94 = some (.readDcbResponse [0x94]) := by
  decide

/-! ## The pure functions: sections 2.1 to 2.5 -/

theorem test_word_codec : w2b 0x04D2 = [0xD2, 0x04] ∧ b2w 0x28 0xB4 = 0xB428 := by decide
theorem test_nib_step : nibStep defaultTable 0x1234 0xF = 0xC28E ∧ nibStep defaultTable 0xF000 0xF = 0 := by decide
theorem test_oct_step_high_nibble_first :
    octStep defaultTable 0xFFFF 0x10 = 0xF3C1 ∧ octStep defaultTable 0xFFFF 0x01 = 0xF1D1 := by decide
theorem test_csum_check_value :
    csum defaultTable [0x31, 0x32, 0x33, 0x34, 0x35, 0x36, 0x37, 0x38, 0x39] = 0x29B1 := by decide
theorem test_csum_order : csum defaultTable [0x12, 0x34] = 0x0EC9 ∧ csum defaultTable [0x34, 0x12] = 0xE62D := by decide
theorem test_build_b8 :
    build defaultTable 0x12 0x3456 [0x78] = [0x12, 0x08, 0x00, 0x56, 0x34, 0x78, 0x59, 0x47] := by decide

/-! ## The textual form: lines of section 2.10 and of section 3 -/

theorem test_text :
    instrText (.txStart 0x93 1234 4) = "TX.START 0x93, 1234, 4".toList ∧ instrText (.csNib 0x9) = "CS.NIB 0x9".toList ∧
    instrText (.rxRd 11) = "RX.RD 11".toList ∧ instrText (.readDcbResponse [0x94, 0x05]) = "XD.RSP [94 05]".toList ∧
    answerText (rspw 3 0) = "=> refuse(RANGE)".toList ∧ answerText (rspw 0 8) = "=> 8".toList := by decide +kernel

/-! ## The buffer -/

theorem test_memory_write_keeps_order :
    Memory.write (Memory.write (Memory.write [] 5 0xAA) 3 0xBB) 5 0xCC = [(3, 0xBB), (5, 0xCC)] := by decide
theorem test_memory_wf_refuses :
    Memory.wf [(5, 0xAA), (3, 0xBB)] = false ∧ Memory.wf [(3, 0xAA), (3, 0xBB)] = false ∧
      Memory.wf [(65535, 0xAA)] = false ∧ Memory.wf [(65534, 0xAA)] = true := by decide

/-! ## Operations -/

/-- The state a list of instructions leaves; the state itself where one of them stops. -/
def after (s : State) (ops : List Instr) : State :=
  match execSeq ops s with
  | .next t => t
  | .fault _ => s
  | .refused _ => s

/-- The response words a list of instructions answers from reset. -/
def answersOf (ops : List Instr) : List Response := (after State.reset ops).answers

/-- A good read-DCB response, F1 of section 2.6. -/
def f1 : List Octet :=
  [0x94, 0x11, 0x00, 0x00, 0x00, 0x08, 0x00, 0x08, 0x00, 0x01, 0x02, 0x03, 0x04, 0x05, 0x06, 0xE2, 0xFF]

/-- A rejected pin, F2 of section 2.6. -/
def f2 : List Octet := [0x94, 0x09, 0x00, 0x00, 0x00, 0x00, 0x00, 0x68, 0xE4]

/-- F1 with the length field changed, F3 of section 2.6. -/
def f3 : List Octet :=
  [0x94, 0x12, 0x00, 0x00, 0x00, 0x08, 0x00, 0x08, 0x00, 0x01, 0x02, 0x03, 0x04, 0x05, 0x06, 0xE2, 0xFF]

/-- F1 with the last octet changed, F4 of section 2.6. -/
def f4 : List Octet :=
  [0x94, 0x11, 0x00, 0x00, 0x00, 0x08, 0x00, 0x08, 0x00, 0x01, 0x02, 0x03, 0x04, 0x05, 0x06, 0xE2, 0xFE]

/-- The state after the frame F1 has been accepted. -/
def accepted : State := after State.reset (rxFrame f1)

/-- The state after the frame F1 has been checked. -/
def checked : State := after State.reset (xdRsp f1)

/-- `45_system.md` R120. -/
theorem test_nop : answersOf [.nop] = [rspw 0 0] := by decide

/-- Section 2.4, CS operations from reset. -/
theorem test_csInit : (after State.reset [.csOct 0x93, .csInit]).acc = 0xFFFF := by decide
theorem test_csNib : (after State.reset [.csNib 0x9]).acc = 0x9F36 ∧ (after State.reset [.csNib 0x9, .csNib 0x3]).acc = 0x522A := by
  decide
theorem test_csOct : (after State.reset [.csOct 0x93, .csOct 0x0B, .csOct 0x00]).acc = 0x310F := by decide

/-- Section 2.5, TX operation vectors. -/
theorem test_txStart_empty_frame :
    let t := after State.reset [.txStart 0xA5 0xBEEF 0]
    t.txout = flagLast [0xA5, 0x07, 0x00, 0xEF, 0xBE, 0x8B, 0x0F] ∧ t.txacc = 0x0F8B ∧ t.txs = .idle := by decide
theorem test_txStart_state_before_range :
    let t := after State.reset [.txStart 0x12 0x3456 1, .txStart 0 0 65529]
    t.txrem = 1 ∧ t.refcode = some .state ∧ t.txout.length = 5 := by decide
theorem test_txData_ends_frame :
    let t := after State.reset [.txStart 0x12 0x3456 1, .txData 0x78]
    t.txout = flagLast [0x12, 0x08, 0x00, 0x56, 0x34, 0x78, 0x59, 0x47] ∧ t.txacc = 0x4759 ∧ t.txs = .idle := by decide
theorem test_txData_refused : answersOf [.txData 0xAA] = [rspw 2 0] := by decide

/-- `43_frame_parse.md` R93, section 2.7. -/
theorem test_rxStart_abandons :
    let t := after State.reset [.rxStart, .rxOct 0x94, .rxStart, .rxEnd]
    t.rxcnt = 0 ∧ t.answers.getLast? = some (rspw 0 1) ∧ t.status = 0x0026 := by decide

/-- `43_frame_parse.md` R95. -/
theorem test_rxOct : (after State.reset [.rxStart, .rxOct 0x94]).cell 0 = 0x94 := by decide
theorem test_rxOct_saturates :
    (after { State.reset with rxs := .recv, rxcnt := 65535 } [.rxOct 1, .rxOct 2]).rxcnt = 65536 := by decide

/-- Section 2.7. -/
theorem test_rxEnd_f4 :
    let t := after State.reset (rxFrame f4)
    t.rxsum = 0xFEE2 ∧ t.rxcalc = 0xFFE2 ∧ t.dlen = 0 ∧ t.status = 0x0046 := by decide
theorem test_rxEnd_four_octets : (after State.reset (rxFrame [0xA5, 0x04, 0x00, 0xBF])).status = 0x0026 := by decide

/-- Section 2.7, after F1. -/
theorem test_rxRd : (after accepted [.rxRd 11]).answers.getLast? = some (rspw 0 0x06) := by decide +kernel
theorem test_rxRd_range : (after accepted [.rxRd 12]).answers.getLast? = some (rspw 3 0) := by decide +kernel

/-- Section 2.8, X2 and X7. -/
theorem test_xdCheck_x2 :
    let t := after State.reset (xdRsp f2)
    t.answers.getLast? = some (rspw 0 5) ∧ t.status = 0x0A14 ∧ t.dcblen = 0 := by decide
theorem test_xdCheck_x7 :
    let x7 : List Octet := [0x94, 0x11, 0x00, 0x00, 0x00, 0x08, 0x00, 0x00, 0x08, 0x01, 0x02, 0x03, 0x04, 0x05, 0x06, 0x95, 0x72]
    (after State.reset (xdRsp x7)).xderr = some .redundantLengthMismatch ∧
      (after (boot { defaultConfig with redOrder := .be } []) (xdRsp x7)).dcblen = 8 := by decide

/-- Section 2.8, after X1. -/
theorem test_xdRd : (after checked [.xdRd 7]).answers.getLast? = some (rspw 0 0x06) := by decide +kernel
theorem test_xdRd_range : (after checked [.xdRd 8]).status = 0xE00C := by decide +kernel

/-- Section 2.10. -/
theorem test_regRd_after_reset :
    answersOf [.regRd 0x00, .regRd 0x01, .regRd 0x02, .regRd 0x04] = [rspw 0 0xFFFF, rspw 0 0, rspw 0 0xFFFF, rspw 0 0] := by
  decide
theorem test_regRd_reserved : answersOf [.regRd 0x0B] = [rspw 3 0] := by decide

/-- Section 2.5, the last TX vector: reset in mid-frame leaves the octets already sent. -/
theorem test_blkReset_in_mid_frame :
    let t := after State.reset [.txStart 0x12 0x3456 1, .txData 0, .txData 0, .blkReset]
    t.txs = .idle ∧ t.ref = false ∧ t.txout.length = 8 := by decide
theorem test_blkReset_keeps_txout :
    (after State.reset [.txStart 0x12 0x3456 1, .blkReset]).txout = midFrame [0x12, 0x08, 0x00, 0x56, 0x34] := by decide

/-- Section 2.5, B1. -/
theorem test_readDcbRequest :
    (after State.reset [.readDcbRequest 1234 0xB428]).txout =
      flagLast [0x93, 0x0B, 0x00, 0xD2, 0x04, 0x00, 0x00, 0xFF, 0xFF, 0x28, 0xB4] := by decide

/-- Section 2.8, X1. -/
theorem test_readDcbResponse :
    let t := after State.reset [.readDcbResponse f1]
    t.status = 0x000C ∧ t.dcbWindow = [0x08, 0x00, 0x01, 0x02, 0x03, 0x04, 0x05, 0x06] := by decide +kernel

/-- Section 2.9, `RX_HDR = 5`. -/
theorem test_rx_hdr_five :
    let t := after (boot { defaultConfig with rxHdr := .five } []) (xdRsp [0x94, 0x13, 0x00, 0xD2, 0x04, 0x00, 0x00, 0x08, 0x00,
      0x08, 0x00, 0x01, 0x02, 0x03, 0x04, 0x05, 0x06, 0xEE, 0x65])
    t.dlen = 12 ∧ t.dcblen = 8 := by decide +kernel

/-! ## Steps -/

/-- The status after one step, if the step goes on. -/
def statusAfterStep (s : State) : Option Word :=
  match step s with
  | .next t => some t.status
  | .fault _ => none
  | .refused _ => none

/-- Section 3, program P6: `TX.DATA` refused, and a reserved word. -/
theorem test_step_refusals :
    statusAfterStep (State.reset.withFetchWord 48 0x50AA00000000) = some 0xA000 ∧
    statusAfterStep (State.reset.withFetchWord 48 0x600000000000) = some 0x6000 := by decide

/-- The two wire frame rows run as the first instruction after reset. -/
theorem test_step_frames :
    statusAfterStep (State.reset.withFetchWord 8 0x93) = some 0x0000 ∧
    statusAfterStep (State.reset.withFetchWord 8 0x94) = some 0xA026 := by decide

/-! ## Witnesses: the hypotheses of each statement are met, each clause at a boundary of its range -/

/-- Whether an outcome is a next state. -/
def goesOn (o : Host.Outcome State Fault Refusal) : Bool :=
  match o with
  | .next _ => true
  | .fault _ => false
  | .refused _ => false

theorem exists_of_goesOn {o : Host.Outcome State Fault Refusal} (h : goesOn o = true) : ∃ t, o = .next t := by
  cases o with
  | next t => exact ⟨t, rfl⟩
  | fault r => cases h
  | refused r => cases h

/-- The state after the frame F4 has been rejected. -/
def rejected : State := after State.reset (rxFrame f4)

theorem witness_StepRunsDecodedInstruction :
    (State.reset.withFetchWord 48 0xE00000000000).port = .word 0xE00000000000 :: [] ∧
      decode (.word 0xE00000000000) = some .blkReset := by decide

theorem witness_IdleBlockHoldsState : State.reset.port = [] := rfl

theorem witness_IllegalWordsByField :
    decodeWord 0x600000000000 = none ∧ decodeWord 0xF00000000000 = none ∧ decodeWord 0x210900000000 = none := by decide

theorem witness_ForeignFrameIsRefused :
    ([0x93] : List Octet).head? ≠ some 0x94 ∧ ∀ pin sum, ([0x93] : List Octet) ≠ requestFrame pin sum :=
  ⟨by decide, fun _ _ h => by cases h⟩

theorem witness_OneRowSelectsEachOperation :
    (∃ r ∈ opRows, r.selects 0x200F00000000 = true) ∧ ∀ r ∈ opRows, r.selects 0x201000000000 = false := by decide

theorem witness_DecodeOfEncode : (Instr.readDcbResponse [0x94]).wf = true ∧ (Instr.txStart 0xFF 0xFFFF 0xFFFF).wf = true := by
  decide

theorem witness_EncodeOfDecode : decode (.word 0x40FFFFFFFFFF) = some (.txStart 0xFF 0xFFFF 0xFFFF) := by decide

theorem witness_BlkResetResult : (after State.reset [.txData 0xAA]).ref = true ∧
    ∃ t, exec .blkReset (after State.reset [.txData 0xAA]) = .next t :=
  ⟨by decide, exists_of_goesOn (by decide +kernel)⟩

theorem witness_WordCodecIsInverse : w2b 0xFF00 = [0x00, 0xFF] := by decide

theorem witness_DefaultChecksumDetectsOneOctet : (0x00 : Octet) ≠ 0x80 := by decide

/-- The operations between `CS.INIT` and the reading of `ACC`: octets, and operations of the other units. -/
def mixedOps : List Instr := [.csOct 0x31, .rxStart, .txStart 0xA5 0xBEEF 0, .nop, .csOct 0x32, .regRd 0xFF]

theorem witness_CsSequenceComputesCsum :
    (∀ i ∈ mixedOps, (∃ b, i = .csOct b) ∨ unitOf i = .tx ∨ unitOf i = .rx ∨ i = .nop ∨ ∃ r, i = .regRd r) ∧
      (∃ t, execSeq (.csInit :: mixedOps) State.reset = .next t) ∧ ∃ t, execSeq mixedOps State.reset = .next t :=
  ⟨by simp [mixedOps, unitOf], exists_of_goesOn (by decide +kernel), exists_of_goesOn (by decide +kernel)⟩

theorem witness_BuildLayout :
    ([] : List Octet).length ≤ 65528 ∧ (List.replicate 65528 (0xAA : Octet)).length ≤ 65528 :=
  ⟨Nat.zero_le _, le_of_eq List.length_replicate⟩

/-- A block in `T_DATA` with `n` octets owed. -/
def owing (n : Word) : State := { State.reset with txs := .data, txrem := n }

theorem witness_TxStartResult :
    (owing 1).txs = .data ∧ State.reset.txs = .idle ∧ 65528 < (65529 : Word).toNat ∧ (0 : Word) = 0 ∧
      (1 : Word) ≠ 0 ∧ (65528 : Word) ≠ 0 ∧ (65528 : Word).toNat ≤ 65528 := by decide

theorem witness_TxDataResult :
    State.reset.txs = .idle ∧ (owing 2).txs = .data ∧ 2 ≤ (owing 2).txrem.toNat ∧ (owing 1).txs = .data ∧
      (owing 1).txrem.toNat = 1 := by decide

theorem witness_TxFrameRefinesBuild : State.reset.txs = .idle ∧ (List.replicate 65528 (0xAA : Octet)).length ≤ 65528 :=
  ⟨rfl, le_of_eq List.length_replicate⟩

theorem witness_TxTransitionsFollowTable :
    isOperation (.txStart 0 0 4) = true ∧ ∃ t, exec (.txStart 0 0 4) State.reset = .next t := ⟨rfl, exists_of_goesOn (by decide +kernel)⟩

theorem witness_ReadDcbRequestResult : State.reset.txs = .idle := rfl

/-- A block in `R_RECV` with `n` octets counted. -/
def receiving (n : BitVec 17) : State := { State.reset with rxs := .recv, rxcnt := n }

theorem witness_RxOctResult :
    State.reset.rxs ≠ .recv ∧ (receiving 0).rxs = .recv ∧ (receiving 65534).rxcnt.toNat ≤ 65534 ∧
      65534 < (receiving 65535).rxcnt.toNat ∧ 65534 < (receiving 65536).rxcnt.toNat := by decide

/-- A block that has received `octets`, before `RX.END`. -/
def gathered (octets : List Octet) : State := after State.reset (.rxStart :: octets.map .rxOct)

theorem witness_RxEndResult_short : (gathered [0x94, 0x04, 0, 0]).rxs = .recv ∧ (gathered [0x94, 0x04, 0, 0]).rxcnt.toNat < 3 + 2 := by
  decide

theorem witness_RxEndResult_length :
    let s := gathered [0x94, 0x06, 0x00, 0x90, 0x97]
    s.rxs = .recv ∧ 3 + 2 ≤ s.rxcnt.toNat ∧ (b2w (s.cell 1) (s.cell 2)).toNat ≠ s.rxcnt.toNat := by decide

theorem witness_RxEndResult_checksum :
    let s := gathered [0x94, 0x05, 0x00, 0x97, 0x90]
    s.rxs = .recv ∧ 3 + 2 ≤ s.rxcnt.toNat ∧ (b2w (s.cell 1) (s.cell 2)).toNat = s.rxcnt.toNat ∧
      csum s.cfg.table (s.cells 0 3) ≠ b2w (s.cell 3) (s.cell 4) := by decide

theorem witness_RxEndResult_accepted :
    let s := gathered [0x94, 0x05, 0x00, 0x90, 0x97]
    s.rxs = .recv ∧ 3 + 2 ≤ s.rxcnt.toNat ∧ (b2w (s.cell 1) (s.cell 2)).toNat = s.rxcnt.toNat ∧
      csum s.cfg.table (s.cells 0 3) = b2w (s.cell 3) (s.cell 4) := by decide

theorem witness_RxRdResult :
    State.reset.rxs ≠ .ok ∧ accepted.Inv ∧ accepted.rxs = .ok ∧ accepted.dlen.toNat ≤ (12 : Word).toNat ∧
      (11 : Word).toNat < accepted.dlen.toNat := by decide +kernel

theorem witness_StopsStandOutsideTheInvariant :
    (owing 0).txs = .data ∧ (owing 0).txrem = 0 ∧
      (let s : State := { State.reset with rxs := .ok, dlen := 0xFFFF }
       s.rxs = .ok ∧ (65532 : Word).toNat < s.dlen.toNat ∧ 65535 ≤ hdrSize s.cfg.rxHdr + (65532 : Word).toNat) ∧
      (let s : State := { State.reset with xds := .ok, dcblen := 0xFFFF }
       s.xds = .ok ∧ (65528 : Word).toNat < s.dcblen.toNat ∧ 65535 ≤ hdrSize s.cfg.rxHdr + 4 + (65528 : Word).toNat) := by
  decide

theorem witness_RxFrameRefinesParse :
    parse defaultConfig f3 = .error .frameLengthMismatch ∧ parse defaultConfig f4 = .error .frameChecksumMismatch ∧
      parse defaultConfig f1 = .ok (0x94, [0, 0, 8, 0, 8, 0, 1, 2, 3, 4, 5, 6]) ∧ (0 : Word).toNat < 12 ∧
      (11 : Word).toNat < 12 := by decide +kernel

theorem witness_RxTransitionsFollowTable : isOperation .rxEnd = true ∧ ∃ t, exec .rxEnd (gathered f1) = .next t :=
  ⟨rfl, exists_of_goesOn (by decide +kernel)⟩

theorem witness_NothingOfRejectedFrameIsExposed_err : rejected.Inv ∧ rejected.rxs = .err := by decide +kernel

theorem witness_NothingOfRejectedFrameIsExposed_recv : (gathered f1).Inv ∧ (gathered f1).rxs = .recv := by decide +kernel

theorem witness_ParseAcceptsEveryBuild :
    (List.replicate 65528 (0xAA : Octet)).length ≤ 65528 ∧ defaultConfig.rxHdr = .three :=
  ⟨le_of_eq List.length_replicate, rfl⟩

theorem witness_AcceptedWindowLasts :
    checked.rxs = .ok ∧ isOperation .xdCheck = true ∧ (∃ t, exec .xdCheck checked = .next t) ∧ Instr.xdCheck ≠ .rxStart ∧
      Instr.xdCheck ≠ .blkReset ∧ checked.Inv ∧ checked.xds = .ok ∧ isOperation .rxStart = true ∧
      ∃ t, exec .rxStart checked = .next t :=
  ⟨by decide +kernel, rfl, exists_of_goesOn (by decide +kernel), by decide, by decide, by decide +kernel, by decide +kernel, rfl,
    exists_of_goesOn (by decide +kernel)⟩

theorem witness_AcceptedWindowLasts_frame : checked.FrameInv :=
  fun _ => ⟨by decide +kernel, by decide +kernel, by decide +kernel, by decide +kernel, by decide +kernel,
    fun e h => absurd h (by rw [(by decide +kernel : checked.xderr = none)]; simp)⟩

theorem witness_XdCheckResult :
    State.reset.rxs ≠ .ok ∧
      (let s := after State.reset (rxFrame f2)
       s.rxs = .ok ∧ checkDcb s.cfg.redOrder s.rxopc (s.cells 3 4) = .error .invalidPin ∧ s.dlen.toNat = 4) ∧
      (let s := accepted
       s.rxs = .ok ∧ checkDcb s.cfg.redOrder s.rxopc (s.cells 3 12) = .ok [8, 0, 1, 2, 3, 4, 5, 6] ∧ s.dlen.toNat = 12) := by
  decide +kernel

theorem witness_XdRdResult :
    accepted.xds ≠ .ok ∧ checked.Inv ∧ checked.xds = .ok ∧ checked.dcblen.toNat ≤ (8 : Word).toNat ∧
      (7 : Word).toNat < checked.dcblen.toNat := by decide +kernel

theorem witness_XdCheckRefinesCheckDcb :
    parse defaultConfig f2 = .ok (0x94, [0, 0, 0, 0]) ∧ checkDcb .le 0x94 [0, 0, 0, 0] = .error .invalidPin ∧
      parse defaultConfig f1 = .ok (0x94, [0, 0, 8, 0, 8, 0, 1, 2, 3, 4, 5, 6]) ∧
      checkDcb .le 0x94 [0, 0, 8, 0, 8, 0, 1, 2, 3, 4, 5, 6] = .ok [8, 0, 1, 2, 3, 4, 5, 6] ∧ (7 : Word).toNat < 8 := by
  decide +kernel

theorem witness_ReadDcbResponseResult :
    parse defaultConfig f2 = .ok (0x94, [0, 0, 0, 0]) ∧ checkDcb .le 0x94 [0, 0, 0, 0] = .error .invalidPin ∧
      parse defaultConfig f1 = .ok (0x94, [0, 0, 8, 0, 8, 0, 1, 2, 3, 4, 5, 6]) ∧
      checkDcb .le 0x94 [0, 0, 8, 0, 8, 0, 1, 2, 3, 4, 5, 6] = .ok [8, 0, 1, 2, 3, 4, 5, 6] ∧
      parse defaultConfig [] = .error .frameLengthMismatch := by
  decide +kernel

theorem witness_RegRdResult : 0x0A < (0x0B : Octet).toNat ∧ 0x0A < (0xFF : Octet).toNat := by decide

theorem witness_RefusalsFollowTable :
    isOperation (.rxRd 12) = true ∧ (∃ t, exec (.rxRd 12) accepted = .next t) ∧
      refusalOf (.rxRd 12) accepted = some .range ∧ (∃ t, exec .blkReset accepted = .next t) ∧
      refusalOf .blkReset accepted = none :=
  ⟨rfl, exists_of_goesOn (by decide +kernel), by decide +kernel, exists_of_goesOn (by decide +kernel), rfl⟩

/-- A block that has refused an operation. -/
def refused : State := after State.reset [.txData 0xAA]

theorem witness_RefIsSticky : refused.ref = true ∧ ∃ t, step (refused.give (.word 0x100000000000)) = .next t :=
  ⟨by decide, exists_of_goesOn (by decide +kernel)⟩

theorem witness_UnitsAreIndependent :
    unitOf (.csOct 1) ≠ .none ∧ (∃ t, exec (.csOct 1) State.reset = .next t) ∧ SameUnit (unitOf (.csOct 1)) State.reset refused :=
  ⟨by decide, exists_of_goesOn (by decide +kernel), ⟨rfl, rfl⟩⟩

theorem witness_TxoutOnlyGrows :
    (∃ t, step State.reset = .next t) ∧ (∃ t, exec .rxStart State.reset = .next t) ∧ unitOf .rxStart ≠ .tx :=
  ⟨exists_of_goesOn (by decide +kernel), exists_of_goesOn (by decide +kernel), by decide⟩

theorem witness_BufferIsWrittenOnlyByRxOct :
    (∃ t, exec .rxEnd (gathered f1) = .next t) ∧ (∀ b, Instr.rxEnd ≠ .rxOct b) ∧ (∀ o, Instr.rxEnd ≠ .readDcbResponse o) ∧
      Instr.rxEnd ≠ .blkReset :=
  ⟨exists_of_goesOn (by decide +kernel), fun _ => nofun, fun _ => nofun, by decide⟩

theorem witness_ConfigurationIsFixed : ∃ t, step (accepted.give .hwReset) = .next t := exists_of_goesOn (by decide +kernel)

theorem witness_StepKeepsInvariant :
    (checked.give (.word 0x700000000000)).Inv ∧ ∃ t, step (checked.give (.word 0x700000000000)) = .next t :=
  ⟨by decide +kernel, exists_of_goesOn (by decide +kernel)⟩

theorem witness_StepAlwaysAnswers : (checked.give (.word 0xC00000070000)).Inv := by decide +kernel

theorem witness_StepKeepsFrameInvariant :
    accepted.Inv ∧ accepted.FrameInv ∧ ∃ t, step (accepted.give (.word 0xB00000000000)) = .next t :=
  ⟨by decide +kernel, fun _ => ⟨by decide +kernel, by decide +kernel, by decide +kernel, by decide +kernel, by decide +kernel,
    fun e h => absurd h (by rw [(by decide +kernel : accepted.xderr = none)]; simp)⟩, exists_of_goesOn (by decide +kernel)⟩

theorem sameButStale_of_cells (s : State) (buf : Memory) (epoch : Nat)
    (h : ∀ i < min s.rxcnt.toNat 65535, s.cell i = ({ s with rxbuf := buf, rxEpoch := epoch } : State).cell i) :
    SameButStale s { s with rxbuf := buf, rxEpoch := epoch } := ⟨rfl, h⟩

theorem witness_StaleCellsAreUnobservable :
    accepted.Inv ∧ SameButStale accepted { accepted with rxbuf := Memory.write accepted.rxbuf 17 0xAA, rxEpoch := 7 } ∧
      ∃ t, exec .xdCheck accepted = .next t := by
  refine ⟨by decide +kernel, sameButStale_of_cells _ _ _ ?_, exists_of_goesOn (by decide +kernel)⟩
  have hn : min accepted.rxcnt.toNat 65535 = 17 := by decide +kernel
  have hl : ∀ i < 17, (Memory.lookup accepted.rxbuf i).isSome = true := by decide +kernel
  rw [hn]
  intro i hi
  obtain ⟨b, hb⟩ := Option.isSome_iff_exists.mp (hl i hi)
  simp only [State.cell, Memory.lookup_write, if_neg (by omega : ¬ i = 17), hb]

end Sys2Proof.Tests
end

section
/-! SUPPORT. `STATUS` read field by field (`10_state.md` R21). -/

namespace Sys2Proof.Machine

/-- Each field of `STATUS` is the code of its register: the fields below it are cut off one by one, and it is the low part of
what remains. -/
theorem status_fields (s : State) :
    s.status.extractLsb' 0 1 = s.txs.code ∧ s.status.extractLsb' 1 2 = s.rxs.code ∧
      s.status.extractLsb' 3 2 = s.xds.code ∧ s.status.extractLsb' 5 4 = rxerrCode s.rxerr ∧
      s.status.extractLsb' 9 4 = xderrCode s.xderr ∧ s.status.extractLsb' 13 1 = BitVec.ofBool s.ref ∧
      s.status.extractLsb' 14 2 = refcodeCode s.refcode := by
  simp [State.status, BitVec.extractLsb'_append_eq_of_le (w := 1), BitVec.extractLsb'_append_eq_of_le (w := 2),
    BitVec.extractLsb'_append_eq_of_le (w := 4), BitVec.extractLsb'_append_eq_right (w' := 1),
    BitVec.extractLsb'_append_eq_right (w' := 2), BitVec.extractLsb'_append_eq_right (w' := 4)]

/-- `REG.RD STATUS` answers the register and changes nothing (R121). -/
theorem exec_regRd_status (s : State) : exec (.regRd 0x01) s = .next (s.ok (s.status.zeroExtend 17)) := rfl

/-- Settles O45: every field is its register's code, and the codes are compared value by value. -/
theorem statusFields : Obligations.StatusFields := by
  intro s
  obtain ⟨htxs, hrxs, hxds, hrxerr, hxderr, href, hrefcode⟩ := status_fields s
  refine ⟨htxs.trans ?_, hrxs.trans ?_, hxds.trans ?_, hrxerr.trans ?_, hxderr.trans ?_, href.trans ?_, hrefcode.trans ?_,
    exec_regRd_status s, by decide⟩
  · cases s.txs <;> rfl
  · cases s.rxs <;> rfl
  · cases s.xds <;> rfl
  · rcases s.rxerr with _ | (_ | _) <;> rfl
  · rcases s.xderr with _ | (_ | _ | _ | _ | _) <;> rfl
  · cases s.ref <;> rfl
  · rcases s.refcode with _ | (_ | _ | _) <;> rfl

end Sys2Proof.Machine
end

section
/-! SUPPORT. What it is for a part of the block to be local to a unit (`10_state.md` R10), kept by every way in which an
operation is put together: updates one after another, a condition, one operation after another. -/

namespace Sys2Proof.Machine

/-! ## What another unit sees, and what the host sees -/

/-- From `s` to `t` no unit but `u` changed a register, and nothing was emitted unless `u` is the TX unit. -/
structure SameOthers (u : BlockUnit) (s t : State) : Prop where
  cs : u ≠ .cs → SameCs s t
  tx : u ≠ .tx → SameTx s t ∧ t.txout = s.txout
  rx : u ≠ .rx → SameRx s t

/-- From `s` to `t` the same words are answered and the same pairs are emitted as from `s'` to `t'`. -/
def SameOutput (s t s' t' : State) : Prop :=
  ∃ words pairs, t.answers = s.answers ++ words ∧ t'.answers = s'.answers ++ words ∧
    t.txout = s.txout ++ pairs ∧ t'.txout = s'.txout ++ pairs

theorem SameCs.refl (s : State) : SameCs s s := ⟨rfl, rfl⟩

theorem SameTx.refl (s : State) : SameTx s s := ⟨rfl, rfl, rfl, rfl⟩

theorem SameRx.refl (s : State) : SameRx s s :=
  ⟨rfl, rfl, rfl, rfl, rfl, rfl, rfl, rfl, rfl, rfl, rfl, rfl, rfl, rfl⟩

theorem SameCs.trans {r s t : State} (h : SameCs r s) (h' : SameCs s t) : SameCs r t :=
  ⟨h.1.trans h'.1, h.2.trans h'.2⟩

theorem SameTx.trans {r s t : State} (h : SameTx r s) (h' : SameTx s t) : SameTx r t := by
  simp_all only [SameTx, and_self]

theorem SameRx.trans {r s t : State} (h : SameRx r s) (h' : SameRx s t) : SameRx r t := by
  simp_all only [SameRx, and_self]

theorem SameOthers.trans {u : BlockUnit} {r s t : State} (h : SameOthers u r s) (h' : SameOthers u s t) :
    SameOthers u r t where
  cs hu := (h.cs hu).trans (h'.cs hu)
  tx hu := ⟨(h.tx hu).1.trans (h'.tx hu).1, (h'.tx hu).2.trans (h.tx hu).2⟩
  rx hu := (h.rx hu).trans (h'.rx hu)

theorem SameOutput.trans {r s t r' s' t' : State} (h : SameOutput r s r' s') (h' : SameOutput s t s' t') :
    SameOutput r t r' t' := by
  obtain ⟨words, pairs, ha, ha', ho, ho'⟩ := h
  obtain ⟨words₂, pairs₂, hb, hb', hp, hp'⟩ := h'
  exact ⟨words ++ words₂, pairs ++ pairs₂, by rw [hb, ha, List.append_assoc], by rw [hb', ha', List.append_assoc],
    by rw [hp, ho, List.append_assoc], by rw [hp', ho', List.append_assoc]⟩

/-! ## Updates that are local to a unit -/

/-- The update `g` changes no other unit, and in states that agree on `u` it does the same to `u` and puts out the same. -/
structure LocalUpdate (u : BlockUnit) (g : State → State) : Prop where
  others : ∀ s, SameOthers u s (g s)
  own : ∀ s s', SameUnit u s s' → SameUnit u (g s) (g s')
  output : ∀ s s', SameUnit u s s' → SameOutput s (g s) s' (g s')

theorem LocalUpdate.comp {u : BlockUnit} {g h : State → State} (hh : LocalUpdate u h) (hg : LocalUpdate u g) :
    LocalUpdate u fun s => h (g s) where
  others s := (hg.others s).trans (hh.others (g s))
  own s s' hs := hh.own _ _ (hg.own s s' hs)
  output s s' hs := (hg.output s s' hs).trans (hh.output _ _ (hg.own s s' hs))

/-- An update that answers and emits nothing. -/
theorem LocalUpdate.silent {u : BlockUnit} {g : State → State} (hothers : ∀ s, SameOthers u s (g s))
    (hown : ∀ s s', SameUnit u s s' → SameUnit u (g s) (g s')) (ha : ∀ s, (g s).answers = s.answers)
    (ho : ∀ s, (g s).txout = s.txout) : LocalUpdate u g where
  others := hothers
  own := hown
  output s s' _ := ⟨[], [], by simp [ha], by simp [ha], by simp [ho], by simp [ho]⟩

theorem LocalUpdate.id {u : BlockUnit} : LocalUpdate u fun s => s :=
  .silent (fun s => ⟨fun _ => .refl s, fun _ => ⟨.refl s, rfl⟩, fun _ => .refl s⟩) (fun _ _ hs => hs) (fun _ => rfl)
    fun _ => rfl

/-- An answer that depends on nothing but the unit is local to it. -/
theorem LocalUpdate.answer {u : BlockUnit} {w : State → Response} (hw : ∀ s s', SameUnit u s s' → w s' = w s) :
    LocalUpdate u fun s => s.answer (w s) where
  others s := ⟨fun _ => .refl s, fun _ => ⟨.refl s, rfl⟩, fun _ => .refl s⟩
  own _ _ hs := by cases u <;> exact hs
  output s s' hs := ⟨[w s], [], rfl, by rw [← hw s s' hs]; rfl, by simp, by simp⟩

theorem LocalUpdate.ok {u : BlockUnit} (v : BitVec 17) : LocalUpdate u fun s => s.ok v := .answer fun _ _ _ => rfl

/-- A refusal is local to every unit: `REF` and `REFCODE` are shared (R10). -/
theorem LocalUpdate.refuse {u : BlockUnit} (r : Reason) : LocalUpdate u fun s => s.refuse r where
  others s := ⟨fun _ => .refl s, fun _ => ⟨.refl s, rfl⟩, fun _ => .refl s⟩
  own _ _ hs := by cases u <;> exact hs
  output _ _ _ := ⟨[refusedWord r], [], rfl, rfl, by simp, by simp⟩

/-! ## Operations that are local to a unit -/

/-- Where the operation `f` goes on it changes no other unit, and in states that agree on `u` it goes on alike, does the same
to `u` and puts out the same. -/
structure LocalOp (u : BlockUnit) (f : State → Host.Outcome State Fault Refusal) : Prop where
  others : ∀ s t, f s = .next t → SameOthers u s t
  own : ∀ s s' t, SameUnit u s s' → f s = .next t →
    ∃ t', f s' = .next t' ∧ SameUnit u t t' ∧ SameOutput s t s' t'

theorem LocalOp.next {u : BlockUnit} {g : State → State} (hg : LocalUpdate u g) : LocalOp u fun s => .next (g s) where
  others s t ht := by cases ht; exact hg.others s
  own s s' t hs ht := by cases ht; exact ⟨g s', rfl, hg.own s s' hs, hg.output s s' hs⟩

theorem LocalOp.fault {u : BlockUnit} (r : State → Fault) : LocalOp u fun s => .fault (r s) where
  others _ _ ht := nomatch ht
  own _ _ _ _ ht := nomatch ht

/-- An operation that reads a value of its unit and is local whatever that value is. -/
theorem LocalOp.read {u : BlockUnit} {α : Type} {v : State → α} {f : α → State → Host.Outcome State Fault Refusal}
    (hv : ∀ s s', SameUnit u s s' → v s' = v s) (hf : ∀ a, LocalOp u (f a)) : LocalOp u fun s => f (v s) s where
  others s t ht := (hf (v s)).others s t ht
  own s s' t hs ht := by
    rw [hv s s' hs]
    exact (hf (v s)).own s s' t hs ht

theorem LocalOp.ite {u : BlockUnit} {c : State → Prop} [∀ s, Decidable (c s)]
    {f g : State → Host.Outcome State Fault Refusal} (hc : ∀ s s', SameUnit u s s' → (c s' ↔ c s)) (hf : LocalOp u f)
    (hg : LocalOp u g) : LocalOp u fun s => if c s then f s else g s where
  others s t ht := by
    split at ht
    · exact hf.others s t ht
    · exact hg.others s t ht
  own s s' t hs ht := by
    simp only [hc s s' hs]
    split at ht
    · next h => simpa only [if_pos h] using hf.own s s' t hs ht
    · next h => simpa only [if_neg h] using hg.own s s' t hs ht

theorem LocalOp.andThen {u : BlockUnit} {f g : State → Host.Outcome State Fault Refusal} (hf : LocalOp u f)
    (hg : LocalOp u g) : LocalOp u fun s => andThen (f s) g where
  others r t ht := by
    obtain ⟨s, hs, ht⟩ := (andThen_eq_next _ _ _).mp ht
    exact (hf.others r s hs).trans (hg.others s t ht)
  own r r' t hr ht := by
    obtain ⟨s, hs, ht⟩ := (andThen_eq_next _ _ _).mp ht
    obtain ⟨s', hs', hss, hout⟩ := hf.own r r' s hr hs
    obtain ⟨t', ht', htt, hout'⟩ := hg.own s s' t hss ht
    exact ⟨t', (andThen_eq_next _ _ _).mpr ⟨s', hs', ht'⟩, htt, hout.trans hout'⟩

end Sys2Proof.Machine
end

section
/-! SUPPORT. Every instruction of a unit is local to it (`10_state.md` R10), meaning by meaning along its branches. -/

namespace Sys2Proof.Machine

/-! ## The CS unit -/

/-- The operations of the CS unit write `ACC` from `ACC` and `TABLE`. -/
theorem localOp_writeAcc {acc : State → Word} (hacc : ∀ s s', SameCs s s' → acc s' = acc s) :
    LocalOp .cs fun s => .next ({ s with acc := acc s }.ok 0) :=
  .next <| (LocalUpdate.ok 0).comp <| .silent
    (fun s => ⟨fun h => absurd rfl h, fun _ => ⟨.refl s, rfl⟩, fun _ => .refl s⟩)
    (fun s s' hs => ⟨hs.1, (hacc s s' hs).symm⟩) (fun _ => rfl) fun _ => rfl

theorem localOp_csInit : LocalOp .cs execCsInit := localOp_writeAcc fun _ _ _ => rfl

theorem localOp_csNib (n : Nibble) : LocalOp .cs (execCsNib n) :=
  localOp_writeAcc fun _ _ ⟨hcfg, hacc⟩ => by rw [hcfg, hacc]

theorem localOp_csOct (b : Octet) : LocalOp .cs (execCsOct b) :=
  localOp_writeAcc fun _ _ ⟨hcfg, hacc⟩ => by rw [hcfg, hacc]

/-! ## The TX unit -/

/-- A write of registers of the TX unit, followed by pairs for `TXOUT`, all made from the unit alone. -/
theorem localUpdate_writeTx {txs : State → TxState} {txacc txrem : State → Word} {pairs : State → List TxPair}
    (h : ∀ s s', SameTx s s' → txs s = txs s' ∧ txacc s = txacc s' ∧ txrem s = txrem s' ∧ pairs s = pairs s') :
    LocalUpdate .tx fun s => { s with txs := txs s, txacc := txacc s, txrem := txrem s }.emit (pairs s) where
  others s := ⟨fun _ => .refl s, fun h => absurd rfl h, fun _ => .refl s⟩
  own s s' hs :=
    have ⟨htxs, htxacc, htxrem, _⟩ := h s s' hs
    ⟨hs.1, htxs, htxacc, htxrem⟩
  output s s' hs :=
    have ⟨_, _, _, hpairs⟩ := h s s' hs
    ⟨[], pairs s, by simp, by simp, rfl, by rw [hpairs]; rfl⟩

theorem localUpdate_endFrame : LocalUpdate .tx State.endFrame :=
  localUpdate_writeTx fun _ _ ⟨_, _, htxacc, _⟩ => ⟨rfl, htxacc, rfl, by rw [htxacc]⟩

theorem localUpdate_txHeaderState (opc : Octet) (pin dlen : Word) : LocalUpdate .tx (txHeaderState opc pin dlen) :=
  localUpdate_writeTx fun _ _ ⟨hcfg, htxs, _, htxrem⟩ => ⟨htxs, by rw [hcfg], htxrem, rfl⟩

theorem localUpdate_txDataState (b : Octet) : LocalUpdate .tx (txDataState b) :=
  localUpdate_writeTx fun _ _ ⟨hcfg, htxs, htxacc, htxrem⟩ => ⟨htxs, by rw [hcfg, htxacc], by rw [htxrem], rfl⟩

/-- The last thing `TX.START` does when data is owed. -/
theorem localUpdate_awaitData (dlen : Word) : LocalUpdate .tx fun s => { s with txrem := dlen, txs := .data } :=
  .silent (fun s => ⟨fun _ => .refl s, fun h => absurd rfl h, fun _ => .refl s⟩)
    (fun _ _ ⟨hcfg, _, htxacc, _⟩ => ⟨hcfg, rfl, htxacc, rfl⟩) (fun _ => rfl) fun _ => rfl

theorem localOp_txStart (opc : Octet) (pin dlen : Word) : LocalOp .tx (execTxStart opc pin dlen) := by
  refine .ite (fun _ _ ⟨_, htxs, _, _⟩ => by rw [htxs]) (.next (.refuse _)) <|
    .ite (fun _ _ _ => Iff.rfl) (.next (.refuse _)) <| .ite (fun _ _ _ => Iff.rfl) (.next ?_) (.next ?_)
  · exact (LocalUpdate.ok 0).comp (localUpdate_endFrame.comp (localUpdate_txHeaderState opc pin dlen))
  · exact (LocalUpdate.ok 0).comp ((localUpdate_awaitData dlen).comp (localUpdate_txHeaderState opc pin dlen))

theorem localOp_txData (b : Octet) : LocalOp .tx (execTxData b) := by
  refine .ite (fun _ _ ⟨_, htxs, _, _⟩ => by rw [htxs]) (.next (.refuse _)) <|
    .ite (fun _ _ ⟨_, _, _, htxrem⟩ => by rw [htxrem]) (.fault _) <|
    .ite (fun _ _ ⟨_, _, _, htxrem⟩ => by simp [htxrem]) (.next ?_) (.next ?_)
  · exact (LocalUpdate.ok 0).comp (localUpdate_endFrame.comp (localUpdate_txDataState b))
  · exact (LocalUpdate.ok 0).comp (localUpdate_txDataState b)

theorem localOp_sendData (data : List Octet) : LocalOp .tx (sendData data) := by
  induction data with
  | nil => exact .next .id
  | cons b rest ih => exact (localOp_txData b).andThen ih

theorem localOp_readDcbRequest (pin sum : Word) : LocalOp .tx (execReadDcbRequest pin sum) :=
  (localOp_txStart _ _ _).andThen (localOp_sendData _)

/-! ## The RX unit -/

section SameRx

variable {s s' : State} (h : SameRx s s')
include h

theorem SameRx.cfg : s'.cfg = s.cfg := by rw [SameRx] at h; simp only [h]
theorem SameRx.rxs : s'.rxs = s.rxs := by rw [SameRx] at h; simp only [h]
theorem SameRx.rxcnt : s'.rxcnt = s.rxcnt := by rw [SameRx] at h; simp only [h]
theorem SameRx.rxopc : s'.rxopc = s.rxopc := by rw [SameRx] at h; simp only [h]
theorem SameRx.dlen : s'.dlen = s.dlen := by rw [SameRx] at h; simp only [h]
theorem SameRx.xds : s'.xds = s.xds := by rw [SameRx] at h; simp only [h]
theorem SameRx.dcblen : s'.dcblen = s.dcblen := by rw [SameRx] at h; simp only [h]
theorem SameRx.rxbuf : s'.rxbuf = s.rxbuf := by rw [SameRx] at h; simp only [h]
theorem SameRx.rxEpoch : s'.rxEpoch = s.rxEpoch := by rw [SameRx] at h; simp only [h]

theorem SameRx.cell (i : Nat) : s'.cell i = s.cell i := State.cell_congr s s' h.rxbuf h.rxEpoch i

theorem SameRx.cells (start len : Nat) : s'.cells start len = s.cells start len :=
  State.cells_congr s s' h.rxbuf h.rxEpoch start len

theorem SameRx.dcbVerdict : dcbVerdict s' = dcbVerdict s := by
  simp only [Machine.dcbVerdict, State.dataBase, h.cell, h.cfg, h.rxopc, h.dlen]

end SameRx

/-- An update that writes registers and cells of the RX unit only, from the unit alone, and answers nothing. -/
theorem localUpdate_rx {g : State → State} (hcs : ∀ s, SameCs s (g s)) (htx : ∀ s, SameTx s (g s))
    (ha : ∀ s, (g s).answers = s.answers) (ho : ∀ s, (g s).txout = s.txout)
    (hown : ∀ s s', SameRx s s' → SameRx (g s) (g s')) : LocalUpdate .rx g :=
  .silent (fun s => ⟨fun _ => hcs s, fun _ => ⟨htx s, ho s⟩, fun h => absurd rfl h⟩) hown ha ho

theorem localUpdate_rxOpen : LocalUpdate .rx State.rxOpen :=
  localUpdate_rx .refl .refl (fun _ => rfl) (fun _ => rfl) fun _ _ h => by
    simp_all only [SameRx, State.rxOpen, and_self]

theorem localUpdate_storeOctet (b : Octet) :
    LocalUpdate .rx fun s => { s.setCell s.rxcnt.toNat b with rxcnt := s.rxcnt + 1 } :=
  localUpdate_rx .refl .refl (fun _ => rfl) (fun _ => rfl) fun _ _ h => by
    simp_all only [SameRx, State.setCell, and_self]

theorem localUpdate_overrun : LocalUpdate .rx fun s => { s with rxcnt := 65536 } :=
  localUpdate_rx .refl .refl (fun _ => rfl) (fun _ => rfl) fun _ _ h => by simp_all only [SameRx, and_self]

theorem localUpdate_rxHeadState : LocalUpdate .rx rxHeadState :=
  localUpdate_rx .refl .refl (fun _ => rfl) (fun _ => rfl) fun _ _ h => by
    have hcell := h.cell
    simp_all only [SameRx, rxHeadState, and_self]

theorem localUpdate_rxSumState : LocalUpdate .rx rxSumState :=
  localUpdate_rx .refl .refl (fun _ => rfl) (fun _ => rfl) fun _ _ h => by
    have hcell := h.cell
    have hcells := h.cells
    simp_all only [SameRx, rxSumState, rxHeadState, and_self]

theorem localUpdate_acceptFrame : LocalUpdate .rx fun s =>
    { rxSumState s with dlen := BitVec.ofNat 16 (s.rxcnt.toNat - hdrSize s.cfg.rxHdr - 2), rxerr := none, rxs := .ok } :=
  (localUpdate_rx (g := fun s =>
    { s with dlen := BitVec.ofNat 16 (s.rxcnt.toNat - hdrSize s.cfg.rxHdr - 2), rxerr := none, rxs := .ok })
    .refl .refl (fun _ => rfl) (fun _ => rfl) fun _ _ h => by simp_all only [SameRx, and_self]).comp
    localUpdate_rxSumState

theorem localUpdate_rxFail (e : FrameError) : LocalUpdate .rx fun s => s.rxFail e :=
  (LocalUpdate.ok _).comp <| localUpdate_rx (g := fun s => { s with rxerr := some e, rxs := .err }) .refl .refl
    (fun _ => rfl) (fun _ => rfl) fun _ _ h => by simp_all only [SameRx, and_self]

theorem localUpdate_xdFail (e : DcbError) : LocalUpdate .rx fun s => s.xdFail e :=
  (LocalUpdate.ok _).comp <| localUpdate_rx (g := fun s => { s with xds := .err, xderr := some e, dcblen := 0 }) .refl .refl
    (fun _ => rfl) (fun _ => rfl) fun _ _ h => by simp_all only [SameRx, and_self]

theorem localUpdate_acceptDcb :
    LocalUpdate .rx fun s => { s with xds := .ok, xderr := none, dcblen := s.dlen - 4 } :=
  localUpdate_rx .refl .refl (fun _ => rfl) (fun _ => rfl) fun _ _ h => by simp_all only [SameRx, and_self]

theorem localOp_rxStart : LocalOp .rx execRxStart := .next ((LocalUpdate.ok 0).comp localUpdate_rxOpen)

theorem localOp_rxOct (b : Octet) : LocalOp .rx (execRxOct b) :=
  .ite (fun _ _ h => by rw [h.rxs]) (.next (.refuse _)) <|
    .ite (fun _ _ h => by rw [h.rxcnt]) (.next ((LocalUpdate.ok 0).comp (localUpdate_storeOctet b)))
      (.next ((LocalUpdate.ok 0).comp localUpdate_overrun))

theorem localOp_rxEnd : LocalOp .rx execRxEnd :=
  .ite (fun _ _ h => by rw [h.rxs]) (.next (.refuse _)) <|
    .ite (fun _ _ h => by rw [h.cfg, h.rxcnt]) (.next (localUpdate_rxFail _)) <|
    .ite (fun _ _ h => by simp only [h.cell, h.rxcnt]) (.next ((localUpdate_rxFail _).comp localUpdate_rxHeadState)) <|
    .ite (fun _ _ h => by simp only [h.cell, h.cells, h.cfg, h.rxcnt])
      (.next ((localUpdate_rxFail _).comp localUpdate_rxSumState))
      (.next ((LocalUpdate.ok 0).comp localUpdate_acceptFrame))

/-- A window read at an index that the unit gives. -/
theorem localOp_readCell {index : State → Nat} (hi : ∀ s s', SameRx s s' → index s' = index s) :
    LocalOp .rx fun s => s.readCell (index s) :=
  .ite (fun s s' h => by rw [hi s s' h]) (.next (.answer fun s s' h => by rw [hi s s' h, h.cell])) (.fault _)

theorem localOp_rxRd (i : Word) : LocalOp .rx (execRxRd i) :=
  .ite (fun _ _ h => by rw [h.rxs]) (.next (.refuse _)) <| .ite (fun _ _ h => by rw [h.dlen]) (.next (.refuse _)) <|
    localOp_readCell fun _ _ h => by simp only [State.dataBase, h.cfg]

theorem localOp_xdRd (i : Word) : LocalOp .rx (execXdRd i) :=
  .ite (fun _ _ h => by rw [h.xds]) (.next (.refuse _)) <| .ite (fun _ _ h => by rw [h.dcblen]) (.next (.refuse _)) <|
    localOp_readCell fun _ _ h => by simp only [State.dcbBase, h.cfg]

/-- What `XD.CHECK` does once the checks of `check_dcb` have said `verdict` (R110). -/
def afterVerdict (verdict : Option DcbError) (s : State) : Host.Outcome State Fault Refusal :=
  match verdict with
  | some e => .next (s.xdFail e)
  | none => .next ({ s with xds := .ok, xderr := none, dcblen := s.dlen - 4 }.ok 0)

theorem execXdCheck_eq (s : State) :
    execXdCheck s = if s.rxs ≠ .ok then .next (s.refuse .state) else afterVerdict (dcbVerdict s) s := rfl

theorem localOp_xdCheck : LocalOp .rx execXdCheck := by
  rw [funext execXdCheck_eq]
  refine .ite (fun _ _ h => by rw [h.rxs]) (.next (.refuse _)) (.read (fun _ _ h => h.dcbVerdict) ?_)
  intro verdict
  cases verdict with
  | some e => exact .next (localUpdate_xdFail e)
  | none => exact .next ((LocalUpdate.ok 0).comp localUpdate_acceptDcb)

theorem localOp_receive (octets : List Octet) : LocalOp .rx (receive octets) := by
  induction octets with
  | nil => exact .next .id
  | cons b rest ih => exact (localOp_rxOct b).andThen ih

theorem localOp_readDcbResponse (octets : List Octet) : LocalOp .rx (execReadDcbResponse octets) :=
  localOp_rxStart.andThen ((localOp_receive octets).andThen (localOp_rxEnd.andThen localOp_xdCheck))

/-! ## Every instruction -/

theorem localOp_exec (i : Instr) (hi : unitOf i ≠ .none) : LocalOp (unitOf i) (exec i) := by
  cases i with
  | nop => exact absurd rfl hi
  | csInit => exact localOp_csInit
  | csNib n => exact localOp_csNib n
  | csOct b => exact localOp_csOct b
  | txStart opc pin dlen => exact localOp_txStart opc pin dlen
  | txData b => exact localOp_txData b
  | rxStart => exact localOp_rxStart
  | rxOct b => exact localOp_rxOct b
  | rxEnd => exact localOp_rxEnd
  | rxRd k => exact localOp_rxRd k
  | xdCheck => exact localOp_xdCheck
  | xdRd k => exact localOp_xdRd k
  | regRd r => exact absurd rfl hi
  | blkReset => exact absurd rfl hi
  | readDcbRequest pin sum => exact localOp_readDcbRequest pin sum
  | readDcbResponse octets => exact localOp_readDcbResponse octets

/-- Settles O49: every instruction of a unit is local to it. -/
theorem unitsAreIndependent : Obligations.UnitsAreIndependent := by
  intro i s t hi ht
  have hlocal := localOp_exec i hi
  obtain ⟨hcs, htx, hrx⟩ := hlocal.others s t ht
  exact ⟨hcs, htx, hrx, fun s' hs => hlocal.own s s' t hs ht⟩

end Sys2Proof.Machine
end

section
/-! SUPPORT. Two states of the block that differ only in stale cells of `RXBUF` (`20_memory.md` R33): how the registers and
the cells read in one relate to those in the other, and which updates of the state keep them so. -/

namespace Sys2Proof.Machine

/-- The state with another content of `RXBUF`. -/
def State.withBuffer (s : State) (buf : Memory) (epoch : Nat) : State := { s with rxbuf := buf, rxEpoch := epoch }

section SameButStale

variable {s s' : State} (h : SameButStale s s')
include h

theorem SameButStale.eq_withBuffer : s' = s.withBuffer s'.rxbuf s'.rxEpoch := h.1.symm

/-- What does not read `RXBUF` reads the same. -/
theorem SameButStale.read {α : Type} (v : State → α) (hv : ∀ r buf epoch, v (r.withBuffer buf epoch) = v r := by
    intros; rfl) : v s' = v s := by
  rw [h.eq_withBuffer, hv]

theorem SameButStale.cell {i : Nat} (hi : i < min s.rxcnt.toNat 65535) : s'.cell i = s.cell i := (h.2 i hi).symm

theorem SameButStale.cells {start len : Nat} (hlen : start + len ≤ min s.rxcnt.toNat 65535) :
    s'.cells start len = s.cells start len :=
  List.map_congr_left fun _ hi => h.cell (by rw [List.mem_range] at hi; omega)

/-- An update that leaves `RXBUF` alone and lets no stale cell into the sequence keeps the two states so. -/
theorem SameButStale.map (g : State → State) (hheld : min (g s).rxcnt.toNat 65535 ≤ min s.rxcnt.toNat 65535)
    (hg : ∀ r buf epoch, g (r.withBuffer buf epoch) = (g r).withBuffer buf epoch := by intros; rfl) :
    SameButStale (g s) (g s') := by
  have hs : g s = (g s).withBuffer s.rxbuf s.rxEpoch := hg s s.rxbuf s.rxEpoch
  have hs' : g s' = (g s).withBuffer s'.rxbuf s'.rxEpoch := by rw [← hg, ← h.eq_withBuffer]
  constructor
  · rw [hs']; rfl
  · intro i hi
    rw [State.cell_congr s (g s) (by rw [hs]; rfl) (by rw [hs]; rfl),
      State.cell_congr s' (g s') (by rw [hs']; rfl) (by rw [hs']; rfl)]
    exact h.2 i (by omega)

theorem SameButStale.answer (w : Response) : SameButStale (s.answer w) (s'.answer w) := h.map (·.answer w) le_rfl

theorem SameButStale.refuse (r : Reason) : SameButStale (s.refuse r) (s'.refuse r) := h.map (·.refuse r) le_rfl

/-- The octet that `RX.OCT` stores is no longer stale, and it is the same in both states. -/
theorem SameButStale.storeOctet (b : Octet) (hroom : s.rxcnt.toNat ≤ 65534) :
    SameButStale { s.setCell s.rxcnt.toNat b with rxcnt := s.rxcnt + 1 }
      { s'.setCell s'.rxcnt.toNat b with rxcnt := s'.rxcnt + 1 } := by
  have hcnt : s'.rxcnt = s.rxcnt := h.read (·.rxcnt)
  constructor
  · rw [h.eq_withBuffer]; rfl
  · intro i hi
    have hsucc : (s.rxcnt + 1).toNat = s.rxcnt.toNat + 1 := by rw [BitVec.toNat_add]; simp; omega
    change (s.setCell s.rxcnt.toNat b).cell i = (s'.setCell s'.rxcnt.toNat b).cell i
    rw [hcnt, State.cell_setCell, State.cell_setCell]
    split
    · rfl
    · exact h.2 i (by simp only [hsucc] at hi; omega)

/-- The header fields that `RX.END` reads are those of the octets received. -/
theorem SameButStale.rxHeadState (hn : 3 ≤ s.rxcnt.toNat) : SameButStale (rxHeadState s) (rxHeadState s') := by
  have hread : Machine.rxHeadState s' = { s' with rxopc := s.cell 0, rxlen := b2w (s.cell 1) (s.cell 2) } := by
    rw [Machine.rxHeadState, h.cell, h.cell, h.cell] <;> omega
  rw [hread]
  exact h.map (fun r => { r with rxopc := s.cell 0, rxlen := b2w (s.cell 1) (s.cell 2) }) le_rfl

/-- Both checksums that `RX.END` compares are those of the octets received. -/
theorem SameButStale.rxSumState (hn : 3 ≤ s.rxcnt.toNat) (hmax : s.rxcnt.toNat ≤ 65535) :
    SameButStale (rxSumState s) (rxSumState s') := by
  have hread : Machine.rxSumState s' = { Machine.rxHeadState s' with
      rxsum := (Machine.rxSumState s).rxsum, rxcalc := (Machine.rxSumState s).rxcalc } := by
    simp only [Machine.rxSumState, h.read (·.rxcnt), h.read (·.cfg)]
    rw [h.cell, h.cell, h.cells] <;> omega
  rw [hread]
  exact (h.rxHeadState hn).map
    (fun r => { r with rxsum := (Machine.rxSumState s).rxsum, rxcalc := (Machine.rxSumState s).rxcalc }) le_rfl

/-- After reset no cell holds an octet of a sequence, whatever `RXBUF` held and now holds. -/
theorem SameButStale.blockReset : SameButStale s.blockReset s'.blockReset := by
  constructor
  · rw [h.eq_withBuffer]; rfl
  · intro i hi; simp at hi

end SameButStale

end Sys2Proof.Machine
end

section
/-! SUPPORT. The windows reach only into the sequence in progress (`10_state.md` R25 (d) to (f)), also in the states between
the operations of `XD.RSP`. -/

namespace Sys2Proof.Machine

theorem three_le_hdrSize (hdr : RxHdr) : 3 ≤ hdrSize hdr := by cases hdr <;> decide

theorem dataWindow_le_received {s : State} (hacc : s.AcceptedInv) (hok : s.rxs = .ok) :
    s.dataBase + s.dlen.toNat ≤ min s.rxcnt.toNat 65535 := by
  obtain ⟨-, hmin, hmax, -, hdlen⟩ := hacc hok
  rw [State.dataBase]
  omega

theorem dcbWindow_le_received {s : State} (hinv : s.Inv) (hok : s.xds = .ok) :
    s.dcbBase + s.dcblen.toNat ≤ min s.rxcnt.toNat 65535 := by
  obtain ⟨-, -, hacc, hshut, ⟨hdcb, -⟩, -⟩ := hinv
  have hrxs : s.rxs = .ok := by
    by_contra hne
    exact absurd (hok.symm.trans (hshut hne).2) (by decide)
  have hdata := dataWindow_le_received hacc hrxs
  obtain ⟨hlen, hlow, -⟩ := hdcb hok
  rw [State.dataBase] at hdata
  rw [State.dcbBase]
  omega

theorem acceptedInv_of_rxs_ne {s : State} (h : s.rxs ≠ .ok) : s.AcceptedInv := fun hok => absurd hok h

theorem execRxOct_keeps_acceptedInv {b : Octet} {s t : State} (hs : s.AcceptedInv) (ht : execRxOct b s = .next t) :
    t.AcceptedInv := by
  obtain ⟨-, h⟩ | ⟨hrecv, -, h⟩ | ⟨hrecv, -, h⟩ := execRxOct_cases b s <;> cases h.symm.trans ht
  · exact hs
  · exact acceptedInv_of_rxs_ne (by simp [hrecv])
  · exact acceptedInv_of_rxs_ne (by simp [hrecv])

theorem receive_keeps_acceptedInv {octets : List Octet} {s t : State} (hs : s.AcceptedInv)
    (ht : receive octets s = .next t) : t.AcceptedInv := by
  induction octets generalizing s with
  | nil => cases ht; exact hs
  | cons b rest ih =>
    obtain ⟨r, hr, ht⟩ := (andThen_eq_next _ _ _).mp ht
    exact ih (execRxOct_keeps_acceptedInv hs hr) ht

theorem execRxEnd_keeps_acceptedInv {s t : State} (hs : s.AcceptedInv) (ht : execRxEnd s = .next t) :
    t.AcceptedInv := by
  obtain ⟨-, h⟩ | ⟨-, -, h⟩ | ⟨-, -, -, h⟩ | ⟨-, -, -, -, h⟩ | ⟨-, hmin, hlen, hsum, h⟩ := execRxEnd_cases s <;>
    cases h.symm.trans ht
  case inl => exact hs
  case inr.inr.inr.inr =>
    have hmax : s.rxcnt.toNat ≤ 65535 := by have := (rxHeadState s).rxlen.isLt; omega
    refine fun _ => ⟨hlen, hmin, hmax, hsum.symm, ?_⟩
    exact (BitVec.toNat_ofNat _ _).trans (Nat.mod_eq_of_lt (by omega))
  all_goals exact acceptedInv_of_rxs_ne (by simp)

end Sys2Proof.Machine
end

section
/-! SUPPORT. No instruction observes a stale cell (`20_memory.md` R33), meaning by meaning along its branches. -/

namespace Sys2Proof.Machine

/-- Where `o` goes on, `o'` goes on to a state that differs only in stale cells. -/
def FollowsButStale (o o' : Host.Outcome State Fault Refusal) : Prop :=
  ∀ t, o = .next t → ∃ t', o' = .next t' ∧ SameButStale t t'

theorem FollowsButStale.next {t t' : State} (h : SameButStale t t') : FollowsButStale (.next t) (.next t') :=
  fun _ ht => by cases ht; exact ⟨t', rfl, h⟩

theorem FollowsButStale.fault (r : Fault) (o : Host.Outcome State Fault Refusal) : FollowsButStale (.fault r) o :=
  fun _ ht => nomatch ht

theorem FollowsButStale.ite {c c' : Prop} [Decidable c] [Decidable c'] {o o' p p' : Host.Outcome State Fault Refusal}
    (hc : c' ↔ c) (ho : c → FollowsButStale o o') (hp : ¬ c → FollowsButStale p p') :
    FollowsButStale (if c then o else p) (if c' then o' else p') := by
  by_cases h : c
  · rw [if_pos h, if_pos (hc.mpr h)]; exact ho h
  · rw [if_neg h, if_neg (hc.not.mpr h)]; exact hp h

theorem FollowsButStale.andThen {o o' : Host.Outcome State Fault Refusal}
    {f : State → Host.Outcome State Fault Refusal} (ho : FollowsButStale o o')
    (hf : ∀ t t', o = .next t → SameButStale t t' → FollowsButStale (f t) (f t')) :
    FollowsButStale (andThen o f) (andThen o' f) := by
  intro t ht
  obtain ⟨r, hr, ht⟩ := (andThen_eq_next _ _ _).mp ht
  obtain ⟨r', hr', hrr⟩ := ho r hr
  rw [hr']
  exact hf r r' hr hrr t ht

section SameButStale

variable {s s' : State} (h : SameButStale s s')
include h

/-! ## The CS unit, the TX unit and the system operations do not read `RXBUF` -/

/-- An update that touches neither `RXBUF` nor `RXCNT`, as the one thing an operation does. -/
theorem FollowsButStale.update (g : State → State) (hcnt : (g s).rxcnt = s.rxcnt := by rfl)
    (hg : ∀ r buf epoch, g (r.withBuffer buf epoch) = (g r).withBuffer buf epoch := by intros; rfl) :
    FollowsButStale (.next (g s)) (.next (g s')) :=
  .next (h.map g (by rw [hcnt]) hg)

theorem execTxStart_followsButStale (opc : Octet) (pin dlen : Word) :
    FollowsButStale (execTxStart opc pin dlen s) (execTxStart opc pin dlen s') :=
  .ite (by rw [h.read (·.txs)]) (fun _ => .next (h.refuse _)) fun _ =>
    .ite Iff.rfl (fun _ => .next (h.refuse _)) fun _ =>
    .ite Iff.rfl (fun _ => .update h fun r => (txHeaderState opc pin dlen r).endFrame.ok 0)
      fun _ => .update h fun r => { txHeaderState opc pin dlen r with txrem := dlen, txs := .data }.ok 0

theorem execTxData_followsButStale (b : Octet) : FollowsButStale (execTxData b s) (execTxData b s') :=
  .ite (by rw [h.read (·.txs)]) (fun _ => .next (h.refuse _)) fun _ =>
    .ite (by rw [h.read (·.txrem)]) (fun _ => .fault _ _) fun _ =>
    .ite (c := (txDataState b s).txrem = 0) (c' := (txDataState b s').txrem = 0)
      (by rw [h.read fun r => (txDataState b r).txrem]) (fun _ => .update h fun r => (txDataState b r).endFrame.ok 0)
      fun _ => .update h fun r => (txDataState b r).ok 0

theorem sendData_followsButStale (data : List Octet) : FollowsButStale (sendData data s) (sendData data s') := by
  induction data generalizing s s' with
  | nil => exact .next h
  | cons b rest ih => exact (execTxData_followsButStale h b).andThen fun _ _ _ h => ih h

theorem execReadDcbRequest_followsButStale (pin sum : Word) :
    FollowsButStale (execReadDcbRequest pin sum s) (execReadDcbRequest pin sum s') :=
  (execTxStart_followsButStale h _ _ _).andThen fun _ _ _ h => sendData_followsButStale h _

theorem execRegRd_followsButStale (r : Octet) : FollowsButStale (execRegRd r s) (execRegRd r s') := by
  have hreg : s'.register r = s.register r := h.read (·.register r)
  unfold execRegRd
  rw [hreg]
  cases s.register r with
  | some v => exact .next (h.answer _)
  | none => exact .next (h.refuse _)

/-! ## The RX unit reads only the sequence in progress -/

theorem execRxStart_followsButStale : FollowsButStale (execRxStart s) (execRxStart s') :=
  .next (h.map (fun r => r.rxOpen.ok 0) (by simp))

theorem execRxOct_followsButStale (b : Octet) : FollowsButStale (execRxOct b s) (execRxOct b s') :=
  .ite (by rw [h.read (·.rxs)]) (fun _ => .next (h.refuse _)) fun _ =>
    .ite (by rw [h.read (·.rxcnt)]) (fun hroom => .next ((h.storeOctet b hroom).answer _))
      fun hfull => .next (h.map (fun r => { r with rxcnt := 65536 }.ok 0) (by simp; omega))

theorem receive_followsButStale (octets : List Octet) : FollowsButStale (receive octets s) (receive octets s') := by
  induction octets generalizing s s' with
  | nil => exact .next h
  | cons b rest ih => exact (execRxOct_followsButStale h b).andThen fun _ _ _ h => ih h

theorem execRxEnd_followsButStale : FollowsButStale (execRxEnd s) (execRxEnd s') := by
  refine .ite (by rw [h.read (·.rxs)]) (fun _ => .next (h.refuse _)) fun _ =>
    .ite (by rw [h.read (·.rxcnt), h.read (·.cfg)]) (fun _ => .update h (·.rxFail .frameLengthMismatch)) fun hmin => ?_
  have hthree : 3 ≤ s.rxcnt.toNat := by have := three_le_hdrSize s.cfg.rxHdr; omega
  have hhead := h.rxHeadState hthree
  refine .ite (c := (rxHeadState s).rxlen.toNat ≠ s.rxcnt.toNat) (c' := (rxHeadState s').rxlen.toNat ≠ s'.rxcnt.toNat)
    (by rw [hhead.read (·.rxlen), h.read (·.rxcnt)])
    (fun _ => .update hhead (·.rxFail .frameLengthMismatch)) fun hlen => ?_
  have hsum := h.rxSumState hthree (by have := (rxHeadState s).rxlen.isLt; omega)
  refine .ite (c := (rxSumState s).rxcalc ≠ (rxSumState s).rxsum) (c' := (rxSumState s').rxcalc ≠ (rxSumState s').rxsum)
    (by rw [hsum.read (·.rxcalc), hsum.read (·.rxsum)])
    (fun _ => .update hsum (·.rxFail .frameChecksumMismatch)) fun _ => ?_
  exact .update hsum fun r =>
    { r with dlen := BitVec.ofNat 16 (r.rxcnt.toNat - hdrSize r.cfg.rxHdr - 2), rxerr := none, rxs := .ok }.ok 0

theorem readCell_followsButStale {i : Nat} (hi : i < min s.rxcnt.toNat 65535) :
    FollowsButStale (s.readCell i) (s'.readCell i) := by
  refine .ite Iff.rfl (fun _ => ?_) fun _ => .fault _ _
  rw [h.cell hi]
  exact .next (h.answer _)

theorem execRxRd_followsButStale (hacc : s.AcceptedInv) (i : Word) :
    FollowsButStale (execRxRd i s) (execRxRd i s') := by
  refine .ite (by rw [h.read (·.rxs)]) (fun _ => .next (h.refuse _)) fun hok =>
    .ite (by rw [h.read (·.dlen)]) (fun _ => .next (h.refuse _)) fun hi => ?_
  have hwindow := dataWindow_le_received hacc (not_not.mp hok)
  rw [h.read (·.dataBase)]
  exact readCell_followsButStale h (by omega)

theorem execXdRd_followsButStale (hinv : s.Inv) (i : Word) : FollowsButStale (execXdRd i s) (execXdRd i s') := by
  refine .ite (by rw [h.read (·.xds)]) (fun _ => .next (h.refuse _)) fun hok =>
    .ite (by rw [h.read (·.dcblen)]) (fun _ => .next (h.refuse _)) fun hi => ?_
  have hwindow := dcbWindow_le_received hinv (not_not.mp hok)
  rw [h.read (·.dcbBase)]
  exact readCell_followsButStale h (by omega)

/-- The checks of `check_dcb` read the data window alone. -/
theorem SameButStale.dcbVerdict (hwindow : s.dataBase + s.dlen.toNat ≤ min s.rxcnt.toNat 65535) :
    dcbVerdict s' = dcbVerdict s := by
  unfold Machine.dcbVerdict
  rw [h.read (·.cfg), h.read (·.rxopc), h.read (·.dlen), h.read (·.dataBase)]
  exact dcbCheck_congr _ _ _ _ _ fun i hi => h.cell (by omega)

theorem execXdCheck_followsButStale (hacc : s.AcceptedInv) : FollowsButStale (execXdCheck s) (execXdCheck s') := by
  rw [execXdCheck_eq, execXdCheck_eq]
  refine .ite (by rw [h.read (·.rxs)]) (fun _ => .next (h.refuse _)) fun hok => ?_
  rw [h.dcbVerdict (dataWindow_le_received hacc (not_not.mp hok))]
  cases dcbVerdict s with
  | some e => exact .update h (·.xdFail e)
  | none => exact .update h fun r => { r with xds := .ok, xderr := none, dcblen := r.dlen - 4 }.ok 0

theorem execReadDcbResponse_followsButStale (octets : List Octet) :
    FollowsButStale (execReadDcbResponse octets s) (execReadDcbResponse octets s') :=
  (execRxStart_followsButStale h).andThen fun _ _ hopen h =>
    (receive_followsButStale h octets).andThen fun _ _ hrecv h =>
    (execRxEnd_followsButStale h).andThen fun _ _ hend h =>
    execXdCheck_followsButStale h <| execRxEnd_keeps_acceptedInv
      (receive_keeps_acceptedInv (acceptedInv_of_rxs_ne (by cases hopen; simp)) hrecv) hend

/-! ## Every instruction -/

theorem exec_followsButStale (hinv : s.Inv) (i : Instr) : FollowsButStale (exec i s) (exec i s') := by
  have ⟨_, _, hacc, _⟩ := hinv
  cases i with
  | nop => exact .next (h.answer _)
  | csInit => exact .update h fun r => { r with acc := 0xFFFF }.ok 0
  | csNib n => exact .update h fun r => { r with acc := nibStep r.cfg.table r.acc n }.ok 0
  | csOct b => exact .update h fun r => { r with acc := octStep r.cfg.table r.acc b }.ok 0
  | txStart opc pin dlen => exact execTxStart_followsButStale h opc pin dlen
  | txData b => exact execTxData_followsButStale h b
  | rxStart => exact execRxStart_followsButStale h
  | rxOct b => exact execRxOct_followsButStale h b
  | rxEnd => exact execRxEnd_followsButStale h
  | rxRd k => exact execRxRd_followsButStale h hacc k
  | xdCheck => exact execXdCheck_followsButStale h hacc
  | xdRd k => exact execXdRd_followsButStale h hinv k
  | regRd r => exact execRegRd_followsButStale h r
  | blkReset => exact .next (h.blockReset.answer _)
  | readDcbRequest pin sum => exact execReadDcbRequest_followsButStale h pin sum
  | readDcbResponse octets => exact execReadDcbResponse_followsButStale h octets

end SameButStale

/-- Settles O57: every instruction reads only cells of the sequence in progress, and adds to it only the octet it is given. -/
theorem staleCellsAreUnobservable : Obligations.StaleCellsAreUnobservable := by
  intro i s s' t hinv h ht
  exact exec_followsButStale h hinv i t ht

end Sys2Proof.Machine
end

section
/-! SUPPORT. Which command words decode, by their fields and by the rows of the operation table (`30_encoding.md` R50 to
R55). -/

namespace Sys2Proof

open Machine

/-! ## The cases of a command word -/

/-- A word with `Z != 0` is illegal (R54). -/
theorem decodeWord_of_zField_ne (w : CmdWord) (h : zField w ≠ 0) : decodeWord w = none := if_pos h

/-- A word has `Z != 0`, or is made of the other four fields. -/
theorem zField_ne_or_exists_opw (w : CmdWord) : zField w ≠ 0 ∨ ∃ op a8 b16 c16, w = opw op a8 b16 c16 := by
  by_cases h : zField w = 0
  · exact .inr ⟨_, _, _, _, (opw_fields w h).symm⟩
  · exact .inl h

theorem nibble_cases (n : Nibble) :
    n = 0x0 ∨ n = 0x1 ∨ n = 0x2 ∨ n = 0x3 ∨ n = 0x4 ∨ n = 0x5 ∨ n = 0x6 ∨ n = 0x7 ∨
      n = 0x8 ∨ n = 0x9 ∨ n = 0xA ∨ n = 0xB ∨ n = 0xC ∨ n = 0xD ∨ n = 0xE ∨ n = 0xF := by
  revert n; decide

@[simp] theorem whenZero_eq_none (unused : Bool) (i : Instr) : whenZero unused i = none ↔ unused = false := by
  cases unused <;> simp [whenZero]

@[simp] theorem whenZero_eq_some (unused : Bool) (i j : Instr) : whenZero unused i = some j ↔ unused = true ∧ i = j := by
  cases unused <;> simp [whenZero]

/-! ## Illegal words, by their fields -/

/-- The conditions of R54: the operation code, `Z`, and then the fields marked `-` in R53, operations with the same such fields
together. -/
theorem decodeWord_eq_none_iff (w : CmdWord) :
    decodeWord w = none ↔
      opField w = 0x6 ∨ opField w = 0xF ∨ zField w ≠ 0 ∨
      (opField w ∈ [(0x0 : Nibble), 0x1, 0x7, 0x9, 0xB, 0xE] ∧ (a8Field w ≠ 0 ∨ b16Field w ≠ 0 ∨ c16Field w ≠ 0)) ∨
      (opField w = 0x2 ∧ ((a8Field w).extractLsb' 4 4 ≠ 0 ∨ b16Field w ≠ 0 ∨ c16Field w ≠ 0)) ∨
      (opField w ∈ [(0x3 : Nibble), 0x5, 0x8, 0xD] ∧ (b16Field w ≠ 0 ∨ c16Field w ≠ 0)) ∨
      (opField w ∈ [(0xA : Nibble), 0xC] ∧ (a8Field w ≠ 0 ∨ c16Field w ≠ 0)) := by
  obtain hz | ⟨op, a8, b16, c16, rfl⟩ := zField_ne_or_exists_opw w
  · exact iff_of_true (decodeWord_of_zField_ne w hz) (.inr (.inr (.inl hz)))
  · obtain rfl | rfl | rfl | rfl | rfl | rfl | rfl | rfl | rfl | rfl | rfl | rfl | rfl | rfl | rfl | rfl :=
      nibble_cases op <;>
    simp [decodeWord, ← imp_iff_not_or]

/-- A word that decodes to nothing is refused with `ILLEGAL`, in every state (R54, R123). -/
theorem runItem_word_of_decodeWord_eq_none {w : CmdWord} (h : decodeWord w = none) (s : State) :
    runItem exec (.word w) s =
      .next { s with ref := true, refcode := some .illegal, answers := s.answers ++ [rspw 1 0] } := by
  simp only [runItem, h]; rfl

/-- Settles O4, operation code by operation code; what a refusal changes holds by definition. -/
theorem illegalWordsByField : Obligations.IllegalWordsByField :=
  fun w => ⟨decodeWord_eq_none_iff w, runItem_word_of_decodeWord_eq_none⟩

/-! ## Decoded words and the rows that select them -/

theorem zero_append_low_nibble {b : Octet} (h : b.extractLsb' 4 4 = 0#4) : 0#4 ++ b.extractLsb' 0 4 = b := by
  revert b; decide

/-- A word that decodes is the encoding of the operation it decodes to: each field is an operand or is zero, and the high
nibble of `A8` is zero for `CS.NIB`. -/
theorem encode_of_decodeWord {w : CmdWord} {i : Instr} (h : decodeWord w = some i) : encode i = .word w := by
  obtain hz | ⟨op, a8, b16, c16, rfl⟩ := zField_ne_or_exists_opw w
  · rw [decodeWord_of_zField_ne w hz] at h
    cases h
  · obtain rfl | rfl | rfl | rfl | rfl | rfl | rfl | rfl | rfl | rfl | rfl | rfl | rfl | rfl | rfl | rfl :=
      nibble_cases op <;>
    simp_all [decodeWord, encode, eq_comm (b := i), zero_append_low_nibble]

open Laws.RowMatch in
/-- Every instruction's encoding stands in the row of its own mnemonic. -/
theorem encode_in_own_row : ∀ i : Instr, Statement i
  | .nop => nop
  | .csInit => csInit
  | .csNib n => csNib n
  | .csOct b => csOct b
  | .txStart opc pin dlen => txStart opc pin dlen
  | .txData b => txData b
  | .rxStart => rxStart
  | .rxOct b => rxOct b
  | .rxEnd => rxEnd
  | .rxRd k => rxRd k
  | .xdCheck => xdCheck
  | .xdRd k => xdRd k
  | .regRd r => regRd r
  | .blkReset => blkReset
  | .readDcbRequest pin sum => readDcbRequest pin sum
  | .readDcbResponse octets => readDcbResponse octets

/-- A word that decodes is selected by a row with the mnemonic of its operation, and by no row with another. -/
theorem row_of_decodeWord {w : CmdWord} {i : Instr} (h : decodeWord w = some i) :
    (∃ r ∈ opRows, r.mnemonic = i.mnemonic ∧ r.selects w = true) ∧
      ∀ r ∈ opRows, r.selects w = true → r.mnemonic = i.mnemonic := by
  simpa only [Laws.RowMatch.Statement, encode_of_decodeWord h] using encode_in_own_row i

/-- A word that a row selects has, in each field, the bits that the row fixes. -/
theorem fields_of_selects {r : OpRow} {w : CmdWord} (h : r.selects w = true) :
    opField w &&& opField r.mask = opField r.pattern ∧ zField w &&& zField r.mask = zField r.pattern ∧
      a8Field w &&& a8Field r.mask = a8Field r.pattern ∧ b16Field w &&& b16Field r.mask = b16Field r.pattern ∧
      c16Field w &&& c16Field r.mask = c16Field r.pattern := by
  rw [← show w &&& r.mask = r.pattern from beq_iff_eq.mp h]
  simp only [opField, zField, a8Field, b16Field, c16Field, BitVec.extractLsb'_and, and_self]

theorem high_nibble_eq_zero (b : Octet) (h : b &&& 0xF0 = 0) : b.extractLsb' 4 4 = 0 := by
  revert b; decide

@[simp] theorem nibble_and_ones (n : Nibble) : n &&& 0xF#4 = n := BitVec.and_allOnes
@[simp] theorem octet_and_ones (b : Octet) : b &&& 0xFF#8 = b := BitVec.and_allOnes
@[simp] theorem word_and_ones (v : Word) : v &&& 0xFFFF#16 = v := BitVec.and_allOnes

/-- The rows of R53 select no illegal word: each fixes to zero the fields that its operation does not use. -/
theorem decodeWord_ne_none_of_selects {r : OpRow} (hr : r ∈ opRows) {w : CmdWord} (h : r.selects w = true) :
    decodeWord w ≠ none := by
  have hfix := fields_of_selects h
  have hhigh := high_nibble_eq_zero (a8Field w)
  rw [Ne, decodeWord_eq_none_iff]
  generalize opField w = op, zField w = z, a8Field w = a8, b16Field w = b16, c16Field w = c16 at *
  fin_cases hr <;> simp_all [opField, zField, a8Field, b16Field, c16Field]

/-- A word is selected by at most one row, since the rows differ in their operation codes. -/
theorem selects_unique {r r' : OpRow} (hr : r ∈ opRows) (hr' : r' ∈ opRows) {w : CmdWord} (h : r.selects w = true)
    (h' : r'.selects w = true) : r' = r := by
  have hop : opField r'.pattern = opField r.pattern :=
    (Laws.RowMatch.opField_of_selects r' hr' w h').symm.trans (Laws.RowMatch.opField_of_selects r hr w h)
  exact (by decide : ∀ a ∈ opRows, ∀ b ∈ opRows, opField a.pattern = opField b.pattern → a = b) r' hr' r hr hop

/-- Settles O5: a word that decodes lies in the row of its operation, a word in a row decodes, and the rows differ in their
operation codes. -/
theorem oneRowSelectsEachOperation : Obligations.OneRowSelectsEachOperation := by
  intro w
  refine ⟨fun r hr hs => ⟨fun r' hr' hs' => selects_unique hr hr' hs hs', ?_⟩, fun hno s => ?_⟩
  · obtain ⟨i, hi⟩ := Option.ne_none_iff_exists'.mp (decodeWord_ne_none_of_selects hr hs)
    exact ⟨i, hi, ((row_of_decodeWord hi).2 r hr hs).symm, fun s => by simp only [runItem, hi]⟩
  · cases hw : decodeWord w with
    | none => exact runItem_word_of_decodeWord_eq_none hw s
    | some i =>
      obtain ⟨r, hr, -, hs⟩ := (row_of_decodeWord hw).1
      exact absurd hs (by simp [hno r hr])

end Sys2Proof
end

section
/-! SUPPORT. The word codec in either direction (`40_word_codec.md` R65 to R67): its octets, its sum, and both round trips. -/

namespace Sys2Proof.Machine

theorem w2b_eq_ofNat (w : Word) : w2b w = [BitVec.ofNat 8 w.toNat, BitVec.ofNat 8 (w.toNat >>> 8)] := rfl

/-- The low octet fills exactly the bits that the shift of the high octet leaves free, so `b2w` adds without carry or wrap
(R66). -/
theorem toNat_b2w (l m : Octet) : (b2w l m).toNat = l.toNat + m.toNat <<< 8 := by
  rw [b2w, BitVec.toNat_append, ← Nat.shiftLeft_add_eq_or_of_lt l.isLt, Nat.add_comm]

/-- The two adjacent octets of a word, put together again, are the whole word (R67). -/
theorem b2w_of_w2b_eq {w : Word} {l m : Octet} (h : w2b w = [l, m]) : b2w l m = w := by
  obtain ⟨rfl, rfl⟩ : w.extractLsb' 0 8 = l ∧ w.extractLsb' 8 8 = m := by simpa [w2b] using h
  calc b2w (w.extractLsb' 0 8) (w.extractLsb' 8 8)
    _ = w.extractLsb' 0 (8 + 8) := BitVec.extractLsb'_append_extractLsb'_eq_extractLsb' rfl
    _ = w := BitVec.extractLsb'_eq_self

/-- The octets of a word made of two octets are those two, low octet first (R67). -/
@[simp] theorem w2b_b2w (l m : Octet) : w2b (b2w l m) = [l, m] := by
  rw [w2b, b2w, BitVec.extractLsb'_append_eq_right, BitVec.extractLsb'_append_eq_left]

/-- Settles O11: octets of a word, word of two octets, and the two round trips. -/
theorem wordCodecIsInverse : Obligations.WordCodecIsInverse :=
  ⟨w2b_eq_ofNat, toNat_b2w, fun _ _ _ => b2w_of_w2b_eq, w2b_b2w⟩

end Sys2Proof.Machine
end

section
/-! SUPPORT. The pure checksum functions (`41_checksum.md` R70 to R73): the nibble step on naturals, and the laws of the
fold. -/

namespace Sys2Proof.Machine

/-! ## The nibble step on naturals (R70) -/

/-- The index of the nibble step is made of the four high bits of the accumulator. -/
theorem toNat_nibIndex (a : Word) (n : Nibble) :
    (a.extractLsb' 12 4 ^^^ n).toNat = (a.toNat >>> 12) ^^^ n.toNat := by
  have hhigh : a.toNat >>> 12 < 2 ^ 4 := by rw [Nat.shiftRight_eq_div_pow]; omega
  rw [BitVec.toNat_xor, BitVec.extractLsb'_toNat, Nat.mod_eq_of_lt hhigh]

theorem toNat_shiftLeft_four (a : Word) : (a <<< 4).toNat = (a.toNat <<< 4) &&& 0xFFFF := by
  rw [BitVec.toNat_shiftLeft]
  exact (Nat.and_two_pow_sub_one_eq_mod _ 16).symm

/-- Settles O12: the index and the shifted accumulator, each read as a natural. -/
theorem nibStepOnNaturals : Obligations.NibStepOnNaturals := by
  intro table a n
  refine ⟨toNat_nibIndex a n ▸ BitVec.isLt _, ?_⟩
  simp only [nibStep, BitVec.toNat_xor (x := a <<< 4), toNat_shiftLeft_four, toNat_nibIndex]

/-! ## The octet step and the fold (R72, R73) -/

theorem octStep_eq_nibSteps (table : Vector Word 16) (a : Word) (b : Octet) :
    octStep table a b =
      nibStep table (nibStep table a (BitVec.ofNat 4 (b.toNat >>> 4))) (BitVec.ofNat 4 b.toNat) := rfl

@[simp] theorem csumFrom_nil (table : Vector Word 16) (a : Word) : csumFrom table a [] = a := rfl

theorem csumFrom_cons (table : Vector Word 16) (a : Word) (b : Octet) (s : List Octet) :
    csumFrom table a (b :: s) = csumFrom table (octStep table a b) s := rfl

theorem csumFrom_append (table : Vector Word 16) (a : Word) (s t : List Octet) :
    csumFrom table a (s ++ t) = csumFrom table (csumFrom table a s) t := List.foldl_append

theorem csum_eq_csumFrom (table : Vector Word 16) (s : List Octet) : csum table s = csumFrom table 0xFFFF s := rfl

/-- The checksum grows at the end of the sequence (R73). -/
theorem csum_append_single (table : Vector Word 16) (s : List Octet) (b : Octet) :
    csum table (s ++ [b]) = octStep table (csum table s) b := by
  rw [csum_eq_csumFrom, csumFrom_append, csumFrom_cons, csumFrom_nil, csum_eq_csumFrom]

/-- Settles O13: the two nibbles of an octet step, and the laws of the fold. -/
theorem csumIsTheFold : Obligations.CsumIsTheFold := fun table =>
  ⟨octStep_eq_nibSteps table, csumFrom_nil table _, csum_append_single table, csum_eq_csumFrom table,
    csumFrom_append table⟩

end Sys2Proof.Machine
end

section
/-! SUPPORT. The operations of the checksum unit (`41_checksum.md` R74 to R76): their command words and their effect in every
state. -/

namespace Sys2Proof

/-- A command word is the bitwise or of its fields, each shifted to its place (`30_encoding.md` R50). -/
theorem opw_eq_or (op : Nibble) (a8 : Octet) (b16 c16 : Word) :
    opw op a8 b16 c16 =
      op.zeroExtend 48 <<< 44 ||| a8.zeroExtend 48 <<< 32 ||| b16.zeroExtend 48 <<< 16 ||| c16.zeroExtend 48 := by
  apply BitVec.eq_of_getLsbD_eq
  intro k hk
  simp only [opw, BitVec.getLsbD_append, BitVec.getLsbD_or, BitVec.getLsbD_shiftLeft, BitVec.getLsbD_setWidth]
  interval_cases k <;> simp

/-- The command word of an operation whose one operand is `A8`. -/
theorem opw_a8 (op : Nibble) (a8 : Octet) :
    opw op a8 0 0 = op.zeroExtend 48 <<< 44 ||| a8.zeroExtend 48 <<< 32 := by
  simp [opw_eq_or]

end Sys2Proof

namespace Sys2Proof.Machine

theorem encode_csNib (n : Nibble) : encode (.csNib n) = .word (0x200000000000 ||| n.zeroExtend 48 <<< 32) := by
  have hn : ((0 : Nibble) ++ n).zeroExtend 48 = n.zeroExtend 48 := by revert n; decide
  rw [encode, opw_a8, hn]; rfl

theorem encode_csOct (b : Octet) : encode (.csOct b) = .word (0x300000000000 ||| b.zeroExtend 48 <<< 32) := by
  rw [encode, opw_a8]; rfl

theorem exec_csInit (s : State) : exec .csInit s = .next ({ s with acc := 0xFFFF }.ok 0) := rfl

theorem exec_csNib (n : Nibble) (s : State) :
    exec (.csNib n) s = .next ({ s with acc := nibStep s.cfg.table s.acc n }.ok 0) := rfl

theorem exec_csOct (b : Octet) (s : State) :
    exec (.csOct b) s = .next ({ s with acc := octStep s.cfg.table s.acc b }.ok 0) := rfl

/-- `CS.NIB` of the two nibbles, the high one first, takes `ACC` one octet further (R76). -/
theorem execSeq_csNib_csNib (b : Octet) (s : State) :
    ∃ t, execSeq [.csNib (b.extractLsb' 4 4), .csNib (b.extractLsb' 0 4)] s = .next t ∧
      t.acc = octStep s.cfg.table s.acc b := by
  rw [execSeq_cons, exec_csNib, andThen_next, execSeq_single, exec_csNib]
  exact ⟨_, rfl, rfl⟩

/-- Settles O17: the word has no operand, and the operation has one way to go on. -/
theorem csInitResult : Obligations.CsInitResult := ⟨by decide, exec_csInit⟩

/-- Settles O18: the nibble stands in the low half of `A8`. -/
theorem csNibResult : Obligations.CsNibResult := fun n s => ⟨encode_csNib n, exec_csNib n s⟩

/-- Settles O19: the octet is `A8`, and its two nibbles give the same `ACC`. -/
theorem csOctResult : Obligations.CsOctResult := fun b s =>
  ⟨encode_csOct b, exec_csOct b s, execSeq_csNib_csNib b s⟩

end Sys2Proof.Machine
end

section
/-! SUPPORT. A run of checksum operations with others between them (`41_checksum.md` R77): only `CS.OCT` moves `ACC`, and it
moves it along the fold. -/

namespace Sys2Proof.Machine

/-- The octet that an operation takes into the checksum. -/
def csOctet : Instr → Option Octet
  | .csOct b => some b
  | _ => none

@[simp] theorem csOctet_csOct (b : Octet) : csOctet (.csOct b) = some b := rfl

theorem csOctet_eq_none {i : Instr} (hi : unitOf i ≠ .cs) : csOctet i = none := by
  cases i with
  | csOct b => exact absurd rfl hi
  | _ => rfl

/-- An operation that may stand between the octets of a checksum: of another unit, or of none but `BLK.RESET`. -/
def LeavesCs (i : Instr) : Prop := unitOf i ≠ .cs ∧ i ≠ .blkReset

/-- An operation of another unit changes no register of the CS unit (R10), and neither does `NOP` or `REG.RD`. -/
theorem exec_sameCs {i : Instr} {s t : State} (hi : LeavesCs i) (ht : exec i s = .next t) : SameCs s t := by
  obtain ⟨hcs, hreset⟩ := hi
  by_cases hnone : unitOf i = .none
  · cases i with
    | nop => cases ht; exact .refl s
    | regRd r =>
      obtain ⟨v, -, -, hok⟩ | ⟨-, hrefuse⟩ := execRegRd_cases r s
      · cases hok.symm.trans ht; exact .refl s
      · cases hrefuse.symm.trans ht; exact .refl s
    | blkReset => exact absurd rfl hreset
    | _ => cases hnone
  · exact ((localOp_exec i hnone).others s t ht).cs hcs

/-- `ACC` runs along the fold of the octets, whatever else is done between them, by induction on the operations. -/
theorem acc_of_execSeq {ops : List Instr} {s t : State} (hops : ∀ i ∈ ops, (∃ b, i = .csOct b) ∨ LeavesCs i)
    (ht : execSeq ops s = .next t) : t.acc = csumFrom s.cfg.table s.acc (ops.filterMap csOctet) := by
  induction ops generalizing s with
  | nil => cases ht; rfl
  | cons i rest ih =>
    rw [List.forall_mem_cons] at hops
    obtain ⟨hi, hrest⟩ := hops
    obtain ⟨u, hu, ht⟩ := (andThen_eq_next _ _ _).mp ht
    rw [ih hrest ht]
    obtain ⟨b, rfl⟩ | hi := hi
    · cases hu
      rw [List.filterMap_cons_some (csOctet_csOct b), csumFrom_cons]
      rfl
    · obtain ⟨hcfg, hacc⟩ := exec_sameCs hi hu
      rw [List.filterMap_cons_none (csOctet_eq_none hi.1), hcfg, hacc]

/-- `REG.RD ACC` answers the accumulator and changes nothing (R121). -/
theorem exec_regRd_acc (s : State) : exec (.regRd 0x00) s = .next (s.ok (s.acc.zeroExtend 17)) := rfl

/-- Settles O20: `CS.INIT` starts the fold at 0xFFFF, and the operations after it carry it on. -/
theorem csSequenceComputesCsum : Obligations.CsSequenceComputesCsum := by
  intro ops s t hspec
  have hops : ∀ i ∈ ops, (∃ b, i = .csOct b) ∨ LeavesCs i := fun i hi => by
    obtain hoct | htx | hrx | rfl | ⟨r, rfl⟩ := hspec i hi
    · exact .inl hoct
    · exact .inr ⟨by simp [htx], by rintro rfl; cases htx⟩
    · exact .inr ⟨by simp [hrx], by rintro rfl; cases hrx⟩
    · exact .inr ⟨by simp [unitOf], by simp⟩
    · exact .inr ⟨by simp [unitOf], by simp⟩
  refine ⟨fun ht => ⟨?_, exec_regRd_acc t⟩, acc_of_execSeq hops⟩
  rw [execSeq_cons, exec_csInit, andThen_next] at ht
  exact acc_of_execSeq hops ht

end Sys2Proof.Machine
end

section
/-! SUPPORT. The octets of a built command frame (`42_frame_build.md` R80): the body and the checksum after it. -/

namespace Sys2Proof.Machine

/-- The octets of a command frame before its checksum: the header and the data. -/
def frameBody (opc : Octet) (pin : Word) (data : List Octet) : List Octet :=
  frameHeader opc (BitVec.ofNat 16 (7 + data.length)) pin ++ data

section Build
variable (table : Vector Word 16) (opc : Octet) (pin : Word) (data : List Octet)

theorem build_eq_append :
    build table opc pin data = frameBody opc pin data ++ w2b (csum table (frameBody opc pin data)) := rfl

@[simp] theorem length_frameBody : (frameBody opc pin data).length = 5 + data.length := by
  rw [frameBody, List.length_append]; rfl

@[simp] theorem length_build : (build table opc pin data).length = 7 + data.length := by
  rw [build_eq_append, List.length_append, length_frameBody, Nat.add_right_comm]; rfl

@[simp] theorem take_build : (build table opc pin data).take (5 + data.length) = frameBody opc pin data := by
  rw [build_eq_append, List.take_left' (length_frameBody opc pin data)]

theorem drop_build :
    (build table opc pin data).drop (5 + data.length) = w2b (csum table (frameBody opc pin data)) := by
  rw [build_eq_append, List.drop_left' (length_frameBody opc pin data)]

/-- The data stand between the five header octets and the checksum. -/
theorem take_drop_five_build : ((build table opc pin data).drop 5).take data.length = data := by
  rw [List.take_drop, take_build]; rfl

/-- The length field of a built frame, of at most 65535 octets, holds their number. -/
theorem toNat_build_length (hlen : data.length ≤ 65528) :
    (b2w (octetAt (build table opc pin data) 1) (octetAt (build table opc pin data) 2)).toNat = 7 + data.length := by
  have hfield : b2w (octetAt (build table opc pin data) 1) (octetAt (build table opc pin data) 2) =
      BitVec.ofNat 16 (7 + data.length) := b2w_of_w2b_eq rfl
  rw [hfield, BitVec.toNat_ofNat, Nat.mod_eq_of_lt (by omega)]

end Build

/-- Settles O21: the fields at their offsets, and the two parts of the frame on either side of the end of the data. -/
theorem buildLayout : Obligations.BuildLayout := fun table opc pin data hlen =>
  ⟨length_build table opc pin data, rfl,
    (toNat_build_length table opc pin data hlen).trans (length_build table opc pin data).symm, b2w_of_w2b_eq rfl,
    take_drop_five_build table opc pin data, by rw [drop_build, take_build]⟩

end Sys2Proof.Machine
end

section
/-! SUPPORT. The operations of the TX unit, one equation for each of their cases (`42_frame_build.md` R81, R83), and their
command words. -/

namespace Sys2Proof.Machine

/-! ## `TX.START` -/

theorem encode_txStart (opc : Octet) (pin dlen : Word) : encode (.txStart opc pin dlen) = .word
    (0x400000000000 ||| opc.zeroExtend 48 <<< 32 ||| pin.zeroExtend 48 <<< 16 ||| dlen.zeroExtend 48) := by
  rw [encode, opw_eq_or]; rfl

section TxStart
variable {s : State} (opc : Octet) (pin : Word) {dlen : Word}

theorem exec_txStart_of_busy (hs : s.txs = .data) : exec (.txStart opc pin dlen) s = .next (s.refuse .state) :=
  if_pos (by simp [hs])

theorem exec_txStart_of_tooLong (hs : s.txs = .idle) (hlen : 65528 < dlen.toNat) :
    exec (.txStart opc pin dlen) s = .next (s.refuse .range) :=
  (if_neg (not_not.mpr hs)).trans (if_pos hlen)

theorem exec_txStart_of_noData (hs : s.txs = .idle) (hdlen : dlen = 0) :
    exec (.txStart opc pin dlen) s = .next ((txHeaderState opc pin dlen s).endFrame.ok 0) :=
  (if_neg (not_not.mpr hs)).trans ((if_neg (by simp [hdlen])).trans (if_pos hdlen))

theorem exec_txStart_of_data (hs : s.txs = .idle) (hdlen : dlen ≠ 0) (hlen : dlen.toNat ≤ 65528) :
    exec (.txStart opc pin dlen) s = .next ({ txHeaderState opc pin dlen s with txrem := dlen, txs := .data }.ok 0) :=
  (if_neg (not_not.mpr hs)).trans ((if_neg (not_lt.mpr hlen)).trans (if_neg hdlen))

end TxStart

/-- Settles O22: the four cases, each by its equation. -/
theorem txStartResult : Obligations.TxStartResult := fun opc pin dlen _ =>
  ⟨encode_txStart opc pin dlen, exec_txStart_of_busy opc pin, exec_txStart_of_tooLong opc pin,
    exec_txStart_of_noData opc pin, exec_txStart_of_data opc pin⟩

/-! ## `TX.DATA` -/

theorem encode_txData (b : Octet) : encode (.txData b) = .word (0x500000000000 ||| b.zeroExtend 48 <<< 32) := by
  rw [encode, opw_a8]; rfl

/-- Counting down a word that is not 0 does not wrap. -/
theorem sub_one_eq_ofNat {w : Word} (hw : 1 ≤ w.toNat) : w - 1 = BitVec.ofNat 16 (w.toNat - 1) := by
  bv_omega

section TxData
variable {s : State} (b : Octet)

theorem exec_txData_of_idle (hs : s.txs = .idle) : exec (.txData b) s = .next (s.refuse .state) :=
  if_pos (by simp [hs])

theorem exec_txData_of_more (hs : s.txs = .data) (hrem : 2 ≤ s.txrem.toNat) :
    exec (.txData b) s = .next ((txDataState b s).ok 0) := by
  have hleft : s.txrem - 1 ≠ 0 := by bv_omega
  exact (if_neg (not_not.mpr hs)).trans ((if_neg (by bv_omega)).trans (if_neg hleft))

theorem exec_txData_of_last (hs : s.txs = .data) (hrem : s.txrem.toNat = 1) :
    exec (.txData b) s = .next ((txDataState b s).endFrame.ok 0) := by
  have hleft : s.txrem - 1 = 0 := by bv_omega
  exact (if_neg (not_not.mpr hs)).trans ((if_neg (by bv_omega)).trans (if_pos hleft))

end TxData

/-- Settles O23: the three cases, each by its equation, with the count read as a natural. -/
theorem txDataResult : Obligations.TxDataResult := by
  intro b s
  refine ⟨encode_txData b, exec_txData_of_idle b, fun hs hrem => ?_, fun hs hrem => ?_⟩
  · rw [exec_txData_of_more b hs hrem, txDataState, sub_one_eq_ofNat (Nat.le_of_lt hrem)]
    rfl
  · rw [exec_txData_of_last b hs hrem, List.append_cons s.txout]
    rfl

end Sys2Proof.Machine
end

section
/-! SUPPORT. A whole command frame sent by its operations (`42_frame_build.md` R85): `TXACC` runs along the checksum of the
octets sent, so the checksum at the end is that of the frame. -/

namespace Sys2Proof.Machine

/-- The flag falls in the part that ends the frame, if it is not empty. -/
theorem flagLast_append (a : List Octet) {b : List Octet} (hb : b ≠ []) :
    flagLast (a ++ b) = midFrame a ++ flagLast b := by
  induction a with
  | nil => rfl
  | cons x rest ih =>
    rw [List.cons_append, flagLast, ih]
    · rfl
    · simp [hb]

/-- The block once the rest of a frame is sent by `n` operations: the octets `octets`, and the checksum `sum` after them. -/
def State.sendRest (s : State) (octets : List Octet) (sum : Word) (n : Nat) : State :=
  { s with txs := .idle, txrem := 0, txacc := sum, txout := s.txout ++ midFrame octets ++ flagLast (w2b sum),
           answers := s.answers ++ List.replicate n (okWord 0) }

/-- An operation that is accepted and emits the next octets of the frame, then the rest. -/
theorem sendRest_emit_ok (s : State) (txs : TxState) (txacc txrem : Word) (a octets : List Octet) (sum : Word) (n : Nat) :
    (({ s with txs := txs, txacc := txacc, txrem := txrem }.emit (midFrame a)).ok 0).sendRest octets sum n =
      s.sendRest (a ++ octets) sum (n + 1) := by
  simp [State.sendRest, State.ok, State.answer, State.emit, midFrame, List.replicate_succ]

/-- As many `TX.DATA` as octets are owed send them and the checksum, by induction on the octets after the first. -/
theorem execSeq_txData (b : Octet) (rest : List Octet) (s : State) (hs : s.txs = .data)
    (hrem : s.txrem.toNat = rest.length + 1) : execSeq ((b :: rest).map .txData) s =
      .next (s.sendRest (b :: rest) (csumFrom s.cfg.table s.txacc (b :: rest)) (rest.length + 1)) := by
  induction rest generalizing b s with
  | nil =>
    rw [List.map_singleton, execSeq_single, exec_txData_of_last b hs hrem]
    rfl
  | cons c rest ih =>
    rw [List.length_cons] at hrem
    have hleft : (s.txrem - 1).toNat = rest.length + 1 := by bv_omega
    rw [List.map_cons, execSeq_cons, exec_txData_of_more b hs (by omega), andThen_next,
      ih c ((txDataState b s).ok 0) hs hleft]
    exact congrArg Host.Outcome.next (sendRest_emit_ok s s.txs _ _ [b] (c :: rest) _ _)

/-- `TX.START` of a count and that many `TX.DATA` send the body of the frame and its checksum. -/
theorem execSeq_txStart_txData (opc : Octet) (pin : Word) {dlen : Word} {data : List Octet} {s : State} (hs : s.txs = .idle)
    (hcount : dlen.toNat = data.length) (hlen : dlen.toNat ≤ 65528) :
    execSeq (.txStart opc pin dlen :: data.map .txData) s =
      .next (s.sendRest (frameBody opc pin data) (csum s.cfg.table (frameBody opc pin data)) (data.length + 1)) := by
  rw [execSeq_cons, frameBody, ← hcount]
  cases data with
  | nil =>
    obtain rfl : dlen = 0 := BitVec.eq_of_toNat_eq hcount
    rw [exec_txStart_of_noData opc pin hs rfl]
    rfl
  | cons b rest =>
    have howed : dlen ≠ 0 := by rintro rfl; cases hcount
    rw [exec_txStart_of_data opc pin hs howed hlen, andThen_next, execSeq_txData b rest _ rfl hcount,
      csum_eq_csumFrom, csumFrom_append, ← List.length_cons, ← hcount]
    exact congrArg Host.Outcome.next
      (sendRest_emit_ok s .data _ dlen (frameHeader opc (BitVec.ofNat 16 (7 + dlen.toNat)) pin) (b :: rest) _ _)

/-- Settles O24: the body is the frame without its checksum, whose two octets follow it. -/
theorem txFrameRefinesBuild : Obligations.TxFrameRefinesBuild := by
  intro opc pin data s hs hlen
  have hsum : w2b (csum s.cfg.table (frameBody opc pin data)) ≠ [] := List.cons_ne_nil _ _
  have hcount : (BitVec.ofNat 16 data.length).toNat = data.length :=
    (BitVec.toNat_ofNat _ _).trans (Nat.mod_eq_of_lt (by omega))
  rw [txFrame, execSeq_txStart_txData opc pin hs hcount (hcount.trans_le hlen), take_build, build_eq_append,
    flagLast_append _ hsum, ← List.append_assoc, Nat.add_comm 1]
  rfl

end Sys2Proof.Machine
end

section
/-! SUPPORT. `TXS` and `TXREM` along every operation (`42_frame_build.md` R86). -/

namespace Sys2Proof.Machine

/-- An instruction changes the registers of its own unit only, or, if it is `NOP` or `REG.RD`, of no unit (R10). -/
theorem exec_sameOthers {i : Instr} {s t : State} (hi : i ≠ .blkReset) (ht : exec i s = .next t) :
    SameOthers (unitOf i) s t := by
  by_cases hnone : unitOf i = .none
  · cases i with
    | nop => cases ht; exact (LocalUpdate.ok 0).others s
    | regRd r =>
      obtain ⟨v, -, -, hok⟩ | ⟨-, hrefuse⟩ := execRegRd_cases r s
      · cases hok.symm.trans ht; exact (LocalUpdate.ok v).others s
      · cases hrefuse.symm.trans ht; exact (LocalUpdate.refuse .range).others s
    | blkReset => exact absurd rfl hi
    | _ => cases hnone
  · exact (localOp_exec i hnone).others s t ht

theorem eq_data_of_ne_idle {txs : TxState} (h : txs ≠ .idle) : txs = .data := by cases txs <;> trivial

theorem eq_idle_of_ne_data {txs : TxState} (h : txs ≠ .data) : txs = .idle := by cases txs <;> trivial

/-- The table has rows for the TX unit and for `BLK.RESET` only. -/
theorem txTable_of_unitOf_ne {i : Instr} (hi : i ≠ .blkReset) (hu : unitOf i ≠ .tx) (txs : TxState) (txrem : Word) :
    txTable i txs txrem = (txs, txrem) := by
  cases i with
  | blkReset => exact absurd rfl hi
  | txStart | txData | readDcbRequest => exact absurd rfl hu
  | _ => rfl

theorem execTxStart_follows_txTable {opc : Octet} {pin dlen : Word} {s t : State}
    (ht : execTxStart opc pin dlen s = .next t) :
    (t.txs, t.txrem) = txTable (.txStart opc pin dlen) s.txs s.txrem := by
  obtain ⟨hs, h⟩ | ⟨hs, hlen, h⟩ | ⟨hs, hdlen, h⟩ | ⟨hs, hdlen, hlen, h⟩ := execTxStart_cases opc pin dlen s <;>
    cases h.symm.trans ht
  · rw [State.refuse_txs, eq_data_of_ne_idle hs]; rfl
  · have hdlen : dlen ≠ 0 := by rintro rfl; cases hlen
    rw [State.refuse_txs, hs]
    exact ((if_neg hdlen).trans (if_neg (not_le.mpr hlen))).symm
  · rw [hs]
    exact (if_pos hdlen).symm
  · rw [hs]
    exact ((if_neg hdlen).trans (if_pos hlen)).symm

theorem execTxData_follows_txTable {b : Octet} {s t : State} (ht : execTxData b s = .next t) :
    (t.txs, t.txrem) = txTable (.txData b) s.txs s.txrem := by
  obtain ⟨hs, h⟩ | ⟨-, -, h⟩ | ⟨hs, hrem, h⟩ | ⟨hs, hrem, h⟩ := execTxData_cases b s <;> cases h.symm.trans ht
  · rw [State.refuse_txs, eq_idle_of_ne_data hs]; rfl
  · rw [hs]
    exact (if_pos hrem).symm
  · have hmore : s.txrem ≠ 1 := by bv_omega
    rw [State.ok_txs, txDataState, State.emit_txs, hs]
    exact (if_neg hmore).symm

/-- Settles O25: the two operations of the TX unit and `BLK.RESET` follow their rows, and no other moves the unit. -/
theorem txTransitionsFollowTable : Obligations.TxTransitionsFollowTable := by
  refine ⟨fun i s t hop ht => ?_, fun s => ⟨s.blockReset, rfl, rfl, rfl⟩⟩
  by_cases hu : unitOf i = .tx
  · cases i with
    | txStart opc pin dlen => exact execTxStart_follows_txTable ht
    | txData b => exact execTxData_follows_txTable ht
    | readDcbRequest => cases hop
    | _ => cases hu
  · by_cases hi : i = .blkReset
    · subst hi; cases ht; rfl
    · obtain ⟨⟨-, htxs, -, htxrem⟩, -⟩ := (exec_sameOthers hi ht).tx hu
      rw [txTable_of_unitOf_ne hi hu, htxs, htxrem]

end Sys2Proof.Machine
end

section
/-! SUPPORT. What `parse` judges (`43_frame_parse.md` R90 to R92): one equation for each of its three results. -/

namespace Sys2Proof.Machine

/-- The sequence holds a whole header and a checksum, and declares the number of its own octets (R90). -/
def LengthFits (cfg : Config) (s : List Octet) : Prop :=
  hdrSize cfg.rxHdr + 2 ≤ s.length ∧ (b2w (octetAt s 1) (octetAt s 2)).toNat = s.length

/-- The last two octets are the checksum of those before them (R90). -/
def SumFits (cfg : Config) (s : List Octet) : Prop :=
  csum cfg.table (s.take (s.length - 2)) = b2w (octetAt s (s.length - 2)) (octetAt s (s.length - 1))

/-- The octets between the header and the checksum (R90). -/
def frameData (cfg : Config) (s : List Octet) : List Octet := (s.take (s.length - 2)).drop (hdrSize cfg.rxHdr)

section Parse
variable {cfg : Config} {s : List Octet}

theorem frameData_eq_take_drop :
    frameData cfg s = (s.drop (hdrSize cfg.rxHdr)).take (s.length - hdrSize cfg.rxHdr - 2) := by
  rw [frameData, List.drop_take, Nat.sub_right_comm]

theorem not_lengthFits_iff :
    ¬ LengthFits cfg s ↔
      s.length < hdrSize cfg.rxHdr + 2 ∨ (b2w (octetAt s 1) (octetAt s 2)).toNat ≠ s.length := by
  rw [LengthFits, not_and_or, not_le]

/-- The declared length is a word, so a sequence that fits has at most 65535 octets. -/
theorem LengthFits.length_le (h : LengthFits cfg s) : s.length ≤ 65535 := by
  have := (b2w (octetAt s 1) (octetAt s 2)).isLt
  have := h.2
  omega

theorem parse_of_not_lengthFits (h : ¬ LengthFits cfg s) : parse cfg s = .error .frameLengthMismatch := by
  obtain hshort | hdeclared := not_lengthFits_iff.mp h
  · exact if_pos hshort
  · exact ite_eq_left_iff.mpr fun _ => if_pos hdeclared

theorem parse_of_not_sumFits (h : LengthFits cfg s) (hsum : ¬ SumFits cfg s) :
    parse cfg s = .error .frameChecksumMismatch :=
  (if_neg (not_lt.mpr h.1)).trans ((if_neg (not_not.mpr h.2)).trans (if_pos hsum))

theorem parse_of_fits (h : LengthFits cfg s) (hsum : SumFits cfg s) :
    parse cfg s = .ok (octetAt s 0, frameData cfg s) :=
  (if_neg (not_lt.mpr h.1)).trans ((if_neg (not_not.mpr h.2)).trans (if_neg (not_not.mpr hsum)))

theorem parse_eq_lengthMismatch_iff : parse cfg s = .error .frameLengthMismatch ↔ ¬ LengthFits cfg s := by
  refine ⟨fun h hlen => ?_, parse_of_not_lengthFits⟩
  by_cases hsum : SumFits cfg s
  · cases (parse_of_fits hlen hsum).symm.trans h
  · cases (parse_of_not_sumFits hlen hsum).symm.trans h

theorem parse_eq_checksumMismatch_iff :
    parse cfg s = .error .frameChecksumMismatch ↔ LengthFits cfg s ∧ ¬ SumFits cfg s := by
  refine ⟨fun h => ?_, fun h => parse_of_not_sumFits h.1 h.2⟩
  by_cases hlen : LengthFits cfg s
  · exact ⟨hlen, fun hsum => nomatch (parse_of_fits hlen hsum).symm.trans h⟩
  · cases (parse_of_not_lengthFits hlen).symm.trans h

theorem parse_eq_ok_iff (opc : Octet) (data : List Octet) :
    parse cfg s = .ok (opc, data) ↔
      LengthFits cfg s ∧ SumFits cfg s ∧ opc = octetAt s 0 ∧ data = frameData cfg s := by
  constructor
  · intro h
    by_cases hlen : LengthFits cfg s
    · by_cases hsum : SumFits cfg s
      · cases (parse_of_fits hlen hsum).symm.trans h
        exact ⟨hlen, hsum, rfl, rfl⟩
      · cases (parse_of_not_sumFits hlen hsum).symm.trans h
    · cases (parse_of_not_lengthFits hlen).symm.trans h
  · rintro ⟨hlen, hsum, rfl, rfl⟩
    exact parse_of_fits hlen hsum

end Parse

/-- Settles O27: the three results exclude one another, each under the condition of its equation. -/
theorem parseOutcome : Obligations.ParseOutcome := fun cfg s =>
  ⟨parse_eq_lengthMismatch_iff.trans not_lengthFits_iff, parse_eq_checksumMismatch_iff.trans and_assoc,
    fun opc data => (parse_eq_ok_iff opc data).trans (by rw [frameData_eq_take_drop]; exact and_assoc)⟩

end Sys2Proof.Machine
end

section
/-! SUPPORT. The operations of the frame parser, one equation for each of their cases (`43_frame_parse.md` R93 to R97), and
their command words. -/

namespace Sys2Proof.Machine

/-! ## `RX.START` -/

theorem exec_rxStart (s : State) : exec .rxStart s = .next (s.rxOpen.ok 0) := rfl

/-- Settles O28: the word has no operand, and the operation has one way to go on. -/
theorem rxStartResult : Obligations.RxStartResult := ⟨by decide, exec_rxStart⟩

/-! ## `RX.OCT` -/

theorem encode_rxOct (b : Octet) : encode (.rxOct b) = .word (0x800000000000 ||| b.zeroExtend 48 <<< 32) := by
  rw [encode, opw_a8]; rfl

section RxOct
variable (b : Octet) {s : State}

theorem exec_rxOct_of_notReceiving (hs : s.rxs ≠ .recv) : exec (.rxOct b) s = .next (s.refuse .state) := if_pos hs

theorem exec_rxOct_of_room (hs : s.rxs = .recv) (hroom : s.rxcnt.toNat ≤ 65534) :
    exec (.rxOct b) s = .next ({ s.setCell s.rxcnt.toNat b with rxcnt := s.rxcnt + 1 }.ok 0) :=
  (if_neg (not_not.mpr hs)).trans (if_pos hroom)

theorem exec_rxOct_of_full (hs : s.rxs = .recv) (hfull : 65534 < s.rxcnt.toNat) :
    exec (.rxOct b) s = .next ({ s with rxcnt := 65536 }.ok 0) :=
  (if_neg (not_not.mpr hs)).trans (if_neg (not_le.mpr hfull))

end RxOct

/-- Settles O29: the three cases, each by its equation; the octet is read back at its own index and at no other. -/
theorem rxOctResult : Obligations.RxOctResult := by
  intro b s
  refine ⟨encode_rxOct b, exec_rxOct_of_notReceiving b, fun hs hroom => ?_, exec_rxOct_of_full b⟩
  have hcount : s.rxcnt + 1 = BitVec.ofNat 17 (s.rxcnt.toNat + 1) := by bv_omega
  refine ⟨Memory.write s.rxbuf s.rxcnt.toNat b, ?_, fun i => s.cell_setCell s.rxcnt.toNat i b⟩
  rw [exec_rxOct_of_room b hs hroom, hcount]
  rfl

/-! ## `RX.END` -/

/-- The state `RX.END` leaves when it accepts the sequence, before it answers. -/
def rxAcceptState (s : State) : State :=
  { rxSumState s with dlen := BitVec.ofNat 16 (s.rxcnt.toNat - hdrSize s.cfg.rxHdr - 2), rxerr := none, rxs := .ok }

section RxEnd
variable {s : State}

theorem exec_rxEnd_of_notReceiving (hs : s.rxs ≠ .recv) : exec .rxEnd s = .next (s.refuse .state) := if_pos hs

variable (hs : s.rxs = .recv)
include hs

theorem exec_rxEnd_of_short (hshort : s.rxcnt.toNat < hdrSize s.cfg.rxHdr + 2) :
    exec .rxEnd s = .next (s.rxFail .frameLengthMismatch) :=
  (if_neg (not_not.mpr hs)).trans (if_pos hshort)

variable (hmin : hdrSize s.cfg.rxHdr + 2 ≤ s.rxcnt.toNat)
include hmin

theorem exec_rxEnd_of_wrongLength (hlen : (rxHeadState s).rxlen.toNat ≠ s.rxcnt.toNat) :
    exec .rxEnd s = .next ((rxHeadState s).rxFail .frameLengthMismatch) :=
  (if_neg (not_not.mpr hs)).trans ((if_neg (not_lt.mpr hmin)).trans (if_pos hlen))

variable (hlen : (rxHeadState s).rxlen.toNat = s.rxcnt.toNat)
include hlen

theorem exec_rxEnd_of_wrongSum (hsum : (rxSumState s).rxcalc ≠ (rxSumState s).rxsum) :
    exec .rxEnd s = .next ((rxSumState s).rxFail .frameChecksumMismatch) :=
  (if_neg (not_not.mpr hs)).trans ((if_neg (not_lt.mpr hmin)).trans ((if_neg (not_not.mpr hlen)).trans (if_pos hsum)))

theorem exec_rxEnd_of_fits (hsum : (rxSumState s).rxcalc = (rxSumState s).rxsum) :
    exec .rxEnd s = .next ((rxAcceptState s).ok 0) :=
  (if_neg (not_not.mpr hs)).trans
    ((if_neg (not_lt.mpr hmin)).trans ((if_neg (not_not.mpr hlen)).trans (if_neg (not_not.mpr hsum))))

end RxEnd

/-- Settles O30: the five cases, each by its equation. -/
theorem rxEndResult : Obligations.RxEndResult := fun _ =>
  ⟨by decide, exec_rxEnd_of_notReceiving, exec_rxEnd_of_short, exec_rxEnd_of_wrongLength, exec_rxEnd_of_wrongSum,
    exec_rxEnd_of_fits⟩

/-! ## `RX.RD` -/

/-- The command word of an operation whose one operand is `B16`. -/
theorem opw_b16 (op : Nibble) (b16 : Word) : opw op 0 b16 0 = op.zeroExtend 48 <<< 44 ||| b16.zeroExtend 48 <<< 16 := by
  simp [opw_eq_or]

theorem encode_rxRd (i : Word) : encode (.rxRd i) = .word (0xA00000000000 ||| i.zeroExtend 48 <<< 16) := by
  rw [encode, opw_b16]; rfl

section RxRd
variable (i : Word) {s : State}

theorem exec_rxRd_of_notAccepted (hs : s.rxs ≠ .ok) : exec (.rxRd i) s = .next (s.refuse .state) := if_pos hs

theorem exec_rxRd_of_beyondData (hs : s.rxs = .ok) (hi : s.dlen.toNat ≤ i.toNat) :
    exec (.rxRd i) s = .next (s.refuse .range) :=
  (if_neg (not_not.mpr hs)).trans (if_pos hi)

/-- The data of an accepted frame stand in cells that exist (R25 (d) of `10_state.md`). -/
theorem exec_rxRd_of_inData (hacc : s.AcceptedInv) (hs : s.rxs = .ok) (hi : i.toNat < s.dlen.toNat) :
    exec (.rxRd i) s = .next (s.ok ((s.cell (hdrSize s.cfg.rxHdr + i.toNat)).zeroExtend 17)) := by
  have hcell : s.dataBase + i.toNat < cellCount := by
    have := dataWindow_le_received hacc hs
    rw [cellCount]
    omega
  exact (if_neg (not_not.mpr hs)).trans ((if_neg (not_le.mpr hi)).trans (if_pos hcell))

end RxRd

/-- Settles O31: the three cases, each by its equation. -/
theorem rxRdResult : Obligations.RxRdResult := fun i _ =>
  ⟨encode_rxRd i, exec_rxRd_of_notAccepted i, exec_rxRd_of_beyondData i,
    fun ⟨_, _, hacc, _⟩ hs hi => exec_rxRd_of_inData i hacc hs hi⟩

theorem exec_xdRd_of_notChecked (i : Word) {s : State} (hs : s.xds ≠ .ok) : exec (.xdRd i) s = .next (s.refuse .state) :=
  if_pos hs

/-- Settles O34: outside `R_OK` the invariant shuts the data window and says that no frame is checked. -/
theorem nothingOfRejectedFrameIsExposed : Obligations.NothingOfRejectedFrameIsExposed := by
  rintro s ⟨-, -, -, hshut, ⟨-, hunchecked, -⟩, -⟩ hrxs
  have hnot : s.rxs ≠ .ok := by obtain h | h := hrxs <;> simp [h]
  obtain ⟨hdlen, hxds⟩ := hshut hnot
  have hnoxd : s.xds ≠ .ok := by simp [hxds]
  exact ⟨hdlen, hunchecked hnoxd, fun i => ⟨exec_rxRd_of_notAccepted i hnot, exec_xdRd_of_notChecked i hnoxd⟩⟩

end Sys2Proof.Machine
end

section
/-! SUPPORT. `RX.END` judges the octets received as `parse` does (`43_frame_parse.md` R96, R98), and `RXS` along every
operation (R99). -/

namespace Sys2Proof.Machine

/-! ## The judgement of `RX.END` -/

/-- The octets received, as `RX.END` reads them. -/
def State.received (s : State) : List Octet := s.cells 0 s.rxcnt.toNat

@[simp] theorem length_received (s : State) : s.received.length = s.rxcnt.toNat := s.length_cells 0 _

theorem octetAt_received {s : State} {i : Nat} (hi : i < s.rxcnt.toNat) : octetAt s.received i = s.cell i := by
  rw [State.received, s.octetAt_cells 0 _ i hi, Nat.zero_add]

section Judge
variable {s : State} (hmin : hdrSize s.cfg.rxHdr + 2 ≤ s.rxcnt.toNat)
include hmin

theorem lengthFits_received_iff :
    LengthFits s.cfg s.received ↔ (rxHeadState s).rxlen.toNat = s.rxcnt.toNat := by
  have := three_le_hdrSize s.cfg.rxHdr
  rw [LengthFits, length_received, octetAt_received (by omega), octetAt_received (by omega)]
  exact and_iff_right hmin

theorem sumFits_received_iff : SumFits s.cfg s.received ↔ (rxSumState s).rxcalc = (rxSumState s).rxsum := by
  rw [SumFits, length_received, octetAt_received (by omega), octetAt_received (by omega), State.received,
    s.take_cells 0 _ _ (Nat.sub_le _ 2)]
  rfl

end Judge

/-- The data of the sequence received is the window that `RX.END` opens on it. -/
theorem frameData_received {s : State} (h : LengthFits s.cfg s.received) :
    frameData s.cfg s.received = ((rxAcceptState s).ok 0).dataWindow := by
  have hmax := h.length_le
  rw [length_received] at hmax
  have hdlen : ((rxAcceptState s).ok 0).dlen.toNat = s.rxcnt.toNat - 2 - hdrSize s.cfg.rxHdr := by
    refine (BitVec.toNat_ofNat _ _).trans ?_
    omega
  rw [frameData, length_received, State.received, s.take_cells 0 _ _ (Nat.sub_le _ 2), s.drop_cells, Nat.zero_add,
    State.dataWindow, hdlen]
  rfl

/-- `RX.END` fails with an error exactly as `parse` does of the octets received, and the data window and the answers given
are as before; or both accept, and the opcode and the open window are what `parse` returns. -/
theorem execRxEnd_judges {s : State} (hs : s.rxs = .recv) :
    (∃ e, ∃ r : State, parse s.cfg s.received = .error e ∧ execRxEnd s = .next (r.rxFail e) ∧ r.dlen = s.dlen ∧
      r.answers = s.answers) ∨
    (parse s.cfg s.received = .ok (s.cell 0, ((rxAcceptState s).ok 0).dataWindow) ∧
      execRxEnd s = .next ((rxAcceptState s).ok 0)) := by
  obtain ⟨hne, -⟩ | ⟨-, hshort, h⟩ | ⟨-, hmin, hlen, h⟩ | ⟨-, hmin, hlen, hsum, h⟩ | ⟨-, hmin, hlen, hsum, h⟩ :=
    execRxEnd_cases s
  · exact absurd hs hne
  · have hfit : ¬ LengthFits s.cfg s.received := not_lengthFits_iff.mpr (.inl (by rwa [length_received]))
    exact .inl ⟨_, s, parse_of_not_lengthFits hfit, h, rfl, rfl⟩
  · have hfit := (lengthFits_received_iff hmin).not.mpr hlen
    exact .inl ⟨_, rxHeadState s, parse_of_not_lengthFits hfit, h, rfl, rfl⟩
  · have hfit := (lengthFits_received_iff hmin).mpr hlen
    have hsumfit := (sumFits_received_iff hmin).not.mpr hsum
    exact .inl ⟨_, rxSumState s, parse_of_not_sumFits hfit hsumfit, h, rfl, rfl⟩
  · have hfit := (lengthFits_received_iff hmin).mpr hlen
    have hsumfit := (sumFits_received_iff hmin).mpr hsum
    refine .inr ⟨?_, h⟩
    rw [parse_of_fits hfit hsumfit, octetAt_received (by omega), frameData_received hfit]

/-! ## The transition table -/

theorem accepts_of_parse_error {s : State} {e : FrameError} (h : parse s.cfg s.received = .error e) :
    s.accepts = false := by
  rw [State.received] at h
  rw [State.accepts, h]

theorem accepts_of_parse_ok {s : State} {p : Octet × List Octet} (h : parse s.cfg s.received = .ok p) :
    s.accepts = true := by
  rw [State.received] at h
  rw [State.accepts, h]

/-- Outside `R_RECV` an `RX.END` has no row in the table. -/
theorem rxTable_rxEnd_of_notReceiving {rxs : RxState} (h : rxs ≠ .recv) (accepts : Bool) :
    rxTable .rxEnd rxs accepts = rxs := by
  cases rxs with
  | recv => exact absurd rfl h
  | _ => rfl

theorem execRxEnd_follows_rxTable {s t : State} (ht : execRxEnd s = .next t) :
    t.rxs = rxTable .rxEnd s.rxs s.accepts := by
  by_cases hs : s.rxs = .recv
  · obtain ⟨e, r, hparse, h, -⟩ | ⟨hparse, h⟩ := execRxEnd_judges hs <;> cases h.symm.trans ht
    · rw [accepts_of_parse_error hparse, hs]; rfl
    · rw [accepts_of_parse_ok hparse, hs]; rfl
  · cases (exec_rxEnd_of_notReceiving hs).symm.trans ht
    rw [rxTable_rxEnd_of_notReceiving hs]; rfl

theorem execRxOct_rxs {b : Octet} {s t : State} (ht : execRxOct b s = .next t) : t.rxs = s.rxs := by
  obtain ⟨-, h⟩ | ⟨-, -, h⟩ | ⟨-, -, h⟩ := execRxOct_cases b s <;> cases h.symm.trans ht <;> rfl

theorem readCell_rxs {index : Nat} {s t : State} (ht : s.readCell index = .next t) : t.rxs = s.rxs := by
  obtain ⟨-, h⟩ | ⟨-, h⟩ := readCell_cases s index <;> cases h.symm.trans ht
  rfl

theorem execRxRd_rxs {i : Word} {s t : State} (ht : execRxRd i s = .next t) : t.rxs = s.rxs := by
  obtain ⟨-, h⟩ | ⟨-, -, h⟩ | ⟨-, -, h⟩ := execRxRd_cases i s
  · cases h.symm.trans ht; rfl
  · cases h.symm.trans ht; rfl
  · exact readCell_rxs (h.symm.trans ht)

theorem execXdRd_rxs {i : Word} {s t : State} (ht : execXdRd i s = .next t) : t.rxs = s.rxs := by
  obtain ⟨-, h⟩ | ⟨-, -, h⟩ | ⟨-, -, h⟩ := execXdRd_cases i s
  · cases h.symm.trans ht; rfl
  · cases h.symm.trans ht; rfl
  · exact readCell_rxs (h.symm.trans ht)

theorem execXdCheck_rxs {s t : State} (ht : execXdCheck s = .next t) : t.rxs = s.rxs := by
  obtain ⟨-, h⟩ | ⟨e, -, -, h⟩ | ⟨-, -, h⟩ := execXdCheck_cases s <;> cases h.symm.trans ht <;> rfl

/-- The table has rows for the RX unit and for `BLK.RESET` only. -/
theorem rxTable_of_unitOf_ne {i : Instr} (hi : i ≠ .blkReset) (hu : unitOf i ≠ .rx) (rxs : RxState) (accepts : Bool) :
    rxTable i rxs accepts = rxs := by
  cases i with
  | blkReset => exact absurd rfl hi
  | rxStart | rxOct | rxEnd | rxRd | xdCheck | xdRd | readDcbResponse => exact absurd rfl hu
  | _ => rfl

/-- Settles O33: the operations of the RX unit and `BLK.RESET` follow their rows, and no other moves the unit. -/
theorem rxTransitionsFollowTable : Obligations.RxTransitionsFollowTable := by
  refine ⟨fun i s t hop ht => ?_, fun s => ⟨s.blockReset, rfl, rfl⟩⟩
  by_cases hu : unitOf i = .rx
  · cases i with
    | rxStart => cases ht; rfl
    | rxOct b => exact execRxOct_rxs ht
    | rxEnd => exact execRxEnd_follows_rxTable ht
    | rxRd k => exact execRxRd_rxs ht
    | xdCheck => exact execXdCheck_rxs ht
    | xdRd k => exact execXdRd_rxs ht
    | readDcbResponse => cases hop
    | _ => cases hu
  · by_cases hi : i = .blkReset
    · subst hi; cases ht; rfl
    · rw [rxTable_of_unitOf_ne hi hu]
      exact ((exec_sameOthers hi ht).rx hu).rxs

end Sys2Proof.Machine
end

section
/-! SUPPORT. A whole sequence received by its operations (`43_frame_parse.md` R98): what the block holds of it, octet by
octet, and the judgement at its end. -/

namespace Sys2Proof.Machine

/-- From `s` the block has taken `RX.START` and `octets` and is in `t`: the first 65535 octets stand in `RXBUF`, and the
count stops at 65536 (R95). -/
structure Receiving (s : State) (octets : List Octet) (t : State) : Prop where
  cfg : t.cfg = s.cfg
  rxs : t.rxs = .recv
  dlen : t.dlen = 0
  rxcnt : t.rxcnt.toNat = min octets.length 65536
  cell : ∀ i < min octets.length 65535, t.cell i = octetAt octets i
  answers : t.answers = s.answers ++ List.replicate (octets.length + 1) (okWord 0)

theorem receiving_nil (s : State) : Receiving s [] (s.rxOpen.ok 0) :=
  ⟨rfl, rfl, rfl, rfl, fun _ hi => absurd hi (Nat.not_lt_zero _), rfl⟩

theorem octetAt_eq_getElem (octets : List Octet) {i : Nat} (hi : i < octets.length) : octetAt octets i = octets[i] :=
  List.getD_eq_getElem _ _ hi

theorem octetAt_concat_of_lt (octets : List Octet) (b : Octet) {i : Nat} (hi : i < octets.length) :
    octetAt (octets ++ [b]) i = octetAt octets i := List.getD_append _ _ _ _ hi

theorem octetAt_concat_length (octets : List Octet) (b : Octet) : octetAt (octets ++ [b]) octets.length = b := by
  simp [octetAt]

section Receiving
variable {s t : State} {octets : List Octet} (h : Receiving s octets t)
include h

/-- One answer more, as each operation that is accepted gives it. -/
theorem Receiving.answers_ok {v : State} (hv : v.answers = t.answers) :
    (v.ok 0).answers = s.answers ++ List.replicate (octets.length + 2) (okWord 0) := by
  rw [State.ok_answers, hv, h.answers, List.append_assoc, ← List.replicate_succ']

/-- One octet more is accepted, and it is stored if there is a cell for it. -/
theorem Receiving.rxOct (b : Octet) : ∃ u, exec (.rxOct b) t = .next u ∧ Receiving s (octets ++ [b]) u := by
  have hcnt := h.rxcnt
  have hlen : (octets ++ [b]).length = octets.length + 1 := List.length_append
  have hans {v : State} (hv : v.answers = t.answers) :
      (v.ok 0).answers = s.answers ++ List.replicate ((octets ++ [b]).length + 1) (okWord 0) := hlen ▸ h.answers_ok hv
  by_cases hroom : t.rxcnt.toNat ≤ 65534
  · refine ⟨_, exec_rxOct_of_room b h.rxs hroom, h.cfg, h.rxs, h.dlen, ?_, fun i hi => ?_, hans rfl⟩
    · have hsucc : (t.rxcnt + 1).toNat = t.rxcnt.toNat + 1 := by bv_omega
      rw [State.ok_rxcnt, hsucc, hlen]
      omega
    · have hidx : t.rxcnt.toNat = octets.length := by omega
      refine (t.cell_setCell t.rxcnt.toNat i b).trans ?_
      rw [hidx]
      split
      · next hlast => rw [hlast, octetAt_concat_length]
      · next hother =>
        have hold : i < octets.length := by omega
        rw [octetAt_concat_of_lt octets b hold]
        exact h.cell i (by omega)
  · have hfull : 65535 ≤ octets.length := by omega
    refine ⟨_, exec_rxOct_of_full b h.rxs (by omega), h.cfg, h.rxs, h.dlen, ?_, fun i hi => ?_, hans rfl⟩
    · rw [hlen]
      exact (Nat.min_eq_right (Nat.succ_le_succ hfull)).symm
    · rw [octetAt_concat_of_lt octets b (by omega)]
      exact h.cell i (by omega)

/-- Every further octet is accepted, by induction on them. -/
theorem Receiving.execSeq_rxOct (rest : List Octet) :
    ∃ u, execSeq (rest.map .rxOct) t = .next u ∧ Receiving s (octets ++ rest) u := by
  induction rest generalizing octets t with
  | nil => exact ⟨t, rfl, by rwa [List.append_nil]⟩
  | cons b rest ih =>
    obtain ⟨u, hu, hub⟩ := h.rxOct b
    obtain ⟨v, hv, hvrest⟩ := ih hub
    exact ⟨v, by rw [List.map_cons, execSeq_cons, hu, andThen_next, hv], by rwa [List.append_cons]⟩

/-- A sequence that fits `RXBUF` is received as it was given. -/
theorem Receiving.received_eq (hlen : octets.length ≤ 65535) : t.received = octets := by
  have hcnt := h.rxcnt
  refine List.ext_getElem (by rw [length_received]; omega) fun i hi _ => ?_
  rw [length_received] at hi
  have hcell := h.cell i (by omega)
  rwa [← octetAt_received hi, octetAt_eq_getElem, octetAt_eq_getElem] at hcell

/-- The block holds enough of a sequence of any length to judge it: one too long to be counted has no length field that
fits, nor has what is held of it. -/
theorem Receiving.parse_received : parse t.cfg t.received = parse s.cfg octets := by
  by_cases hlen : octets.length ≤ 65535
  · rw [h.received_eq hlen, h.cfg]
  · have hcnt := h.rxcnt
    have hgiven : ¬ LengthFits s.cfg octets := fun hfit => hlen hfit.length_le
    have hheld : ¬ LengthFits t.cfg t.received := fun hfit => by
      have := hfit.length_le
      rw [length_received] at this
      omega
    rw [parse_of_not_lengthFits hgiven, parse_of_not_lengthFits hheld]

end Receiving

/-- Every octet of the data is read by its index, once the sequence is accepted. -/
theorem exec_rxRd_dataWindow (i : Word) {s : State} (hacc : s.AcceptedInv) (hs : s.rxs = .ok)
    (hi : i.toNat < s.dlen.toNat) :
    exec (.rxRd i) s = .next (s.ok ((octetAt s.dataWindow i.toNat).zeroExtend 17)) := by
  rw [State.dataWindow, s.octetAt_cells _ _ _ hi]
  exact exec_rxRd_of_inData i hacc hs hi

theorem execSeq_rxFrame {octets : List Octet} {s u : State}
    (hu : execSeq (octets.map .rxOct) (s.rxOpen.ok 0) = .next u) : execSeq (rxFrame octets) s = execRxEnd u := by
  rw [rxFrame, List.cons_append, execSeq_cons, exec_rxStart, andThen_next, execSeq_append, hu, andThen_next, execSeq_single]
  rfl

/-- Settles O32: the octets are received, whatever their number, and `RX.END` judges them as `parse` does. -/
theorem rxFrameRefinesParse : Obligations.RxFrameRefinesParse := by
  intro octets s
  obtain ⟨u, hu, hrecv⟩ := (receiving_nil s).execSeq_rxOct octets
  rw [List.nil_append] at hrecv
  rw [execSeq_rxFrame hu, ← hrecv.parse_received]
  obtain ⟨e, r, hparse, hend, hdlen, hans⟩ | ⟨hparse, hend⟩ := execRxEnd_judges hrecv.rxs
  · refine ⟨_, hend, fun e' he => ?_, fun _ _ hok => nomatch hparse.symm.trans hok⟩
    cases hparse.symm.trans he
    exact ⟨rfl, rfl, hdlen.trans hrecv.dlen, by rw [Nat.add_comm 1, State.rxFail_answers, hans, hrecv.answers]; rfl⟩
  · refine ⟨_, hend, fun _ he => (nomatch hparse.symm.trans he), fun opc data hok => ?_⟩
    cases hparse.symm.trans hok
    have hacc := execRxEnd_keeps_acceptedInv (acceptedInv_of_rxs_ne (by simp [hrecv.rxs])) hend
    rw [Nat.add_comm 2]
    exact ⟨rfl, rfl, rfl, (State.length_cells _ _ _).symm, hrecv.answers_ok rfl,
      fun i hi => exec_rxRd_dataWindow i hacc rfl (by rwa [State.dataWindow, State.length_cells] at hi)⟩

end Sys2Proof.Machine
end

section
/-! SUPPORT. What `check_dcb` judges (`44_read_dcb_exchange.md` R107, R109): one condition for each of its six results. -/

namespace Sys2Proof.Machine

/-- When the checks of `check_dcb` say `verdict` of `len` octets `d` of data: every check before the one named passes, and
that one fails (R107); a field not wholly present fails its own check (R109). -/
def DcbReason (order : RedOrder) (opc : Octet) (len : Nat) (d : Nat → Octet) (verdict : Option DcbError) : Prop :=
  let start := b2w (d 0) (d 1)
  let inner := b2w (d 2) (d 3)
  let red := redLength order (d 4) (d 5)
  match verdict with
  | some .unexpectedOpcode => opc ≠ 0x94
  | some .unexpectedStart => opc = 0x94 ∧ (len < 2 ∨ start ≠ 0)
  | some .invalidPin => opc = 0x94 ∧ 4 ≤ len ∧ start = 0 ∧ inner = 0
  | some .innerLengthMismatch =>
    opc = 0x94 ∧ 2 ≤ len ∧ start = 0 ∧ (len < 4 ∨ inner ≠ 0 ∧ inner.toNat + 4 ≠ len)
  | some .redundantLengthMismatch =>
    opc = 0x94 ∧ 4 ≤ len ∧ start = 0 ∧ inner ≠ 0 ∧ inner.toNat + 4 = len ∧ (len < 6 ∨ red.toNat ≠ len - 4)
  | none => opc = 0x94 ∧ 6 ≤ len ∧ start = 0 ∧ inner.toNat = len - 4 ∧ red.toNat = len - 4

section Verdict
variable {order : RedOrder} {opc : Octet} {len : Nat} {d : Nat → Octet}

/-- The verdict given has its reason, along the checks in their order. -/
theorem dcbReason_dcbCheck : DcbReason order opc len d (dcbCheck order opc len d) := by
  unfold dcbCheck
  split_ifs with hopc hstart hfour hpin hinner hred <;> simp only [ne_eq, not_not, not_or, not_lt] at *
  · exact hopc
  · exact ⟨hopc, hstart⟩
  · exact ⟨hopc, hstart.1, hstart.2, .inl hfour⟩
  · exact ⟨hopc, hfour, hstart.2, hpin⟩
  · exact ⟨hopc, hstart.1, hstart.2, .inr ⟨hpin, hinner⟩⟩
  · exact ⟨hopc, hfour, hstart.2, hpin, hinner, hred⟩
  · exact ⟨hopc, hred.1, hstart.2, Nat.eq_sub_of_add_eq hinner, hred.2⟩

/-- A verdict with its reason is the one given: the checks before the one named pass, and that one fails. -/
theorem dcbCheck_of_dcbReason {verdict : Option DcbError} (h : DcbReason order opc len d verdict) :
    dcbCheck order opc len d = verdict := by
  cases verdict with
  | some e =>
    cases e with
    | unexpectedOpcode => exact if_pos h
    | unexpectedStart =>
      obtain ⟨rfl, hstart⟩ := h
      exact if_pos hstart
    | invalidPin =>
      obtain ⟨rfl, hfour, hstart, hpin⟩ := h
      have htwo : ¬ len < 2 := by omega
      simp [dcbCheck, htwo, hstart, not_lt.mpr hfour, hpin]
    | innerLengthMismatch =>
      obtain ⟨rfl, htwo, hstart, hfour | ⟨hpin, hinner⟩⟩ := h
      · simp [dcbCheck, not_lt.mpr htwo, hstart, hfour]
      · simpa [dcbCheck, not_lt.mpr htwo, hstart, hinner] using fun (_ : 4 ≤ len) => hpin
    | redundantLengthMismatch =>
      obtain ⟨rfl, hfour, hstart, hpin, hinner, hred⟩ := h
      have htwo : ¬ len < 2 := by omega
      simpa [dcbCheck, htwo, hstart, not_lt.mpr hfour, hinner, hred] using hpin
  | none =>
    obtain ⟨rfl, hsix, hstart, hinner, hred⟩ := h
    have htwo : ¬ len < 2 := by omega
    have hfour : ¬ len < 4 := by omega
    have hsum : (b2w (d 2) (d 3)).toNat + 4 = len := by omega
    have hpin : b2w (d 2) (d 3) ≠ 0 := by bv_omega
    simpa [dcbCheck, htwo, hstart, hfour, hsum, not_lt.mpr hsix, hred] using hpin

theorem dcbCheck_eq_iff (verdict : Option DcbError) :
    dcbCheck order opc len d = verdict ↔ DcbReason order opc len d verdict :=
  ⟨fun h => h ▸ dcbReason_dcbCheck, dcbCheck_of_dcbReason⟩

variable {data : List Octet}

theorem checkDcb_eq_error_iff (e : DcbError) :
    checkDcb order opc data = .error e ↔ dcbCheck order opc data.length (octetAt data) = some e := by
  unfold checkDcb
  cases dcbCheck order opc data.length (octetAt data) <;> simp

theorem checkDcb_eq_ok_iff (r : List Octet) :
    checkDcb order opc data = .ok r ↔
      dcbCheck order opc data.length (octetAt data) = none ∧ r = data.drop 4 := by
  unfold checkDcb
  cases dcbCheck order opc data.length (octetAt data) <;> simp [eq_comm]

theorem checkDcb_eq_error_iff_reason (e : DcbError) :
    checkDcb order opc data = .error e ↔ DcbReason order opc data.length (octetAt data) (some e) :=
  (checkDcb_eq_error_iff e).trans (dcbCheck_eq_iff _)

end Verdict

/-- Settles O37: each result is given exactly for its reason. -/
theorem checkDcbOutcome : Obligations.CheckDcbOutcome := fun order opc data =>
  ⟨checkDcb_eq_error_iff_reason _, checkDcb_eq_error_iff_reason _, checkDcb_eq_error_iff_reason _,
    checkDcb_eq_error_iff_reason _, checkDcb_eq_error_iff_reason _, fun r => by
      rw [checkDcb_eq_ok_iff, dcbCheck_eq_iff]
      simp only [DcbReason, and_assoc]
      rfl⟩

end Sys2Proof.Machine
end

section
/-! SUPPORT. The operations of the read-DCB checker, one equation for each of their cases (`44_read_dcb_exchange.md` R110,
R111), and their command words. -/

namespace Sys2Proof.Machine

/-! ## `XD.CHECK` -/

/-- The state `XD.CHECK` leaves when it finds a RawDCB, before it answers. -/
def xdAcceptState (s : State) : State := { s with xds := .ok, xderr := none, dcblen := s.dlen - 4 }

section XdCheck
variable {s : State}

theorem exec_xdCheck_of_notAccepted (hs : s.rxs ≠ .ok) : exec .xdCheck s = .next (s.refuse .state) := if_pos hs

theorem exec_xdCheck_of_accepted (hs : s.rxs = .ok) : exec .xdCheck s = afterVerdict (dcbVerdict s) s :=
  (execXdCheck_eq s).trans (if_neg (not_not.mpr hs))

theorem exec_xdCheck_of_error {e : DcbError} (hs : s.rxs = .ok)
    (h : checkDcb s.cfg.redOrder s.rxopc s.dataWindow = .error e) : exec .xdCheck s = .next (s.xdFail e) := by
  rw [exec_xdCheck_of_accepted hs, dcbVerdict_eq, (checkDcb_eq_error_iff e).mp h]
  rfl

variable {r : List Octet} (h : checkDcb s.cfg.redOrder s.rxopc s.dataWindow = .ok r)
include h

theorem exec_xdCheck_of_ok (hs : s.rxs = .ok) : exec .xdCheck s = .next ((xdAcceptState s).ok 0) := by
  rw [exec_xdCheck_of_accepted hs, dcbVerdict_eq, ((checkDcb_eq_ok_iff r).mp h).1]
  rfl

/-- Data that pass the checks hold the four octets before RawDCB and two of its own, so its length does not wrap. -/
theorem six_le_dlen_of_ok : 6 ≤ s.dlen.toNat := by
  obtain ⟨-, hsix, -⟩ := (dcbCheck_eq_iff _).mp ((checkDcb_eq_ok_iff r).mp h).1
  rwa [State.dataWindow, State.length_cells] at hsix

theorem toNat_xdAcceptState_dcblen : (xdAcceptState s).dcblen.toNat = s.dlen.toNat - 4 := by
  have hsix := six_le_dlen_of_ok h
  rw [xdAcceptState]
  bv_omega

theorem xdAcceptState_dcblen : (xdAcceptState s).dcblen = BitVec.ofNat 16 (s.dlen.toNat - 4) := by
  rw [← toNat_xdAcceptState_dcblen h, BitVec.ofNat_toNat, BitVec.setWidth_eq]

/-- The window that `XD.CHECK` opens holds RawDCB. -/
theorem dcbWindow_xdAcceptState : ((xdAcceptState s).ok 0).dcbWindow = r := by
  rw [((checkDcb_eq_ok_iff r).mp h).2, State.dataWindow, s.drop_cells, State.dcbWindow, State.ok_dcblen,
    toNat_xdAcceptState_dcblen h]
  rfl

end XdCheck

/-- Settles O38: the three cases, each by its equation. -/
theorem xdCheckResult : Obligations.XdCheckResult := by
  refine fun s => ⟨by decide, exec_xdCheck_of_notAccepted, fun e => exec_xdCheck_of_error, fun r hs h => ?_⟩
  rw [exec_xdCheck_of_ok h hs, ← xdAcceptState_dcblen h]
  rfl

/-! ## `XD.RD` -/

theorem encode_xdRd (i : Word) : encode (.xdRd i) = .word (0xC00000000000 ||| i.zeroExtend 48 <<< 16) := by
  rw [encode, opw_b16]; rfl

section XdRd
variable (i : Word) {s : State}

theorem exec_xdRd_of_beyondDcb (hs : s.xds = .ok) (hi : s.dcblen.toNat ≤ i.toNat) :
    exec (.xdRd i) s = .next (s.refuse .range) :=
  (if_neg (not_not.mpr hs)).trans (if_pos hi)

theorem exec_xdRd_of_inDcb (hcells : s.dcbBase + s.dcblen.toNat ≤ cellCount) (hs : s.xds = .ok)
    (hi : i.toNat < s.dcblen.toNat) :
    exec (.xdRd i) s = .next (s.ok ((s.cell (hdrSize s.cfg.rxHdr + 4 + i.toNat)).zeroExtend 17)) := by
  have hcell : s.dcbBase + i.toNat < cellCount := by omega
  exact (if_neg (not_not.mpr hs)).trans ((if_neg (not_le.mpr hi)).trans (if_pos hcell))

/-- Every octet of RawDCB is read by its index. -/
theorem exec_xdRd_dcbWindow (hcells : s.dcbBase + s.dcblen.toNat ≤ cellCount) (hs : s.xds = .ok)
    (hi : i.toNat < s.dcblen.toNat) :
    exec (.xdRd i) s = .next (s.ok ((octetAt s.dcbWindow i.toNat).zeroExtend 17)) := by
  rw [State.dcbWindow, s.octetAt_cells _ _ _ hi]
  exact exec_xdRd_of_inDcb i hcells hs hi

/-- A RawDCB is found in an accepted frame only (R25 (e) of `10_state.md`). -/
theorem rxs_ok_of_xds_ok (hshut : s.ShutInv) (hs : s.xds = .ok) : s.rxs = .ok := by
  by_contra hne
  cases hs.symm.trans (hshut hne).2

/-- The two windows are one, four octets apart, so both reads reach the same cell. -/
theorem exec_rxRd_add_four (hinv : s.Inv) (hs : s.xds = .ok) (hi : i.toNat < s.dcblen.toNat) :
    exec (.rxRd (i + 4)) s = .next (s.ok ((s.cell (hdrSize s.cfg.rxHdr + 4 + i.toNat)).zeroExtend 17)) := by
  obtain ⟨-, -, hacc, hshut, ⟨hdcb, -⟩, -⟩ := hinv
  obtain ⟨hdcblen, -⟩ := hdcb hs
  have hindex : (i + 4).toNat = 4 + i.toNat := by bv_omega
  rw [exec_rxRd_of_inData (i + 4) hacc (rxs_ok_of_xds_ok hshut hs) (by omega), hindex, Nat.add_assoc]

end XdRd

/-- Settles O39: the three cases, each by its equation; the two reads give the same cell. -/
theorem xdRdResult : Obligations.XdRdResult := by
  refine fun i s => ⟨encode_xdRd i, exec_xdRd_of_notChecked i, exec_xdRd_of_beyondDcb i, fun hinv hs hi => ?_⟩
  have hcells : s.dcbBase + s.dcblen.toNat ≤ cellCount := (dcbWindow_le_received hinv hs).trans (Nat.min_le_right _ _)
  have hread := exec_xdRd_of_inDcb i hcells hs hi
  exact ⟨hread, (exec_rxRd_add_four i hinv hs hi).trans hread.symm⟩

end Sys2Proof.Machine
end

section
/-! SUPPORT. `XD.CHECK` after a whole frame that `parse` accepts (`44_read_dcb_exchange.md` R112). -/

namespace Sys2Proof.Machine

/-- From every state, a sequence that `parse` accepts leaves its opcode and its data in the block (R98). -/
theorem execSeq_rxFrame_of_parse_ok {octets data : List Octet} {opc : Octet} {s : State}
    (h : parse s.cfg octets = .ok (opc, data)) :
    ∃ t, execSeq (rxFrame octets) s = .next t ∧ t.AcceptedInv ∧ t.rxs = .ok ∧ t.cfg = s.cfg ∧ t.rxopc = opc ∧
      t.dataWindow = data := by
  obtain ⟨u, hu, hrecv⟩ := (receiving_nil s).execSeq_rxOct octets
  rw [List.nil_append] at hrecv
  rw [← hrecv.parse_received] at h
  obtain ⟨e, _, herr, -⟩ | ⟨hparse, hend⟩ := execRxEnd_judges hrecv.rxs
  · cases herr.symm.trans h
  · cases hparse.symm.trans h
    exact ⟨_, (execSeq_rxFrame hu).trans hend,
      execRxEnd_keeps_acceptedInv (acceptedInv_of_rxs_ne (by simp [hrecv.rxs])) hend, rfl, hrecv.cfg, rfl, rfl⟩

/-- The RawDCB found in an accepted frame stands in cells that exist. -/
theorem xdAcceptState_dcb_le_cellCount {s : State} {r : List Octet} (hacc : s.AcceptedInv) (hs : s.rxs = .ok)
    (h : checkDcb s.cfg.redOrder s.rxopc s.dataWindow = .ok r) :
    (xdAcceptState s).dcbBase + (xdAcceptState s).dcblen.toNat ≤ cellCount := by
  have hsix := six_le_dlen_of_ok h
  have hbase : (xdAcceptState s).dcbBase = s.dataBase + 4 := rfl
  have hdata := dataWindow_le_received hacc hs
  rw [toNat_xdAcceptState_dcblen h, hbase, cellCount]
  omega

/-- Settles O40: the frame is accepted with its opcode and data, and `XD.CHECK` finds in them what `check_dcb` does. -/
theorem xdCheckRefinesCheckDcb : Obligations.XdCheckRefinesCheckDcb := by
  intro octets s opc data hparse
  obtain ⟨u, hu, hacc, hrxs, hcfg, rfl, rfl⟩ := execSeq_rxFrame_of_parse_ok hparse
  rw [xdRsp, execSeq_append, hu, andThen_next, execSeq_single, ← hcfg]
  cases hdcb : checkDcb u.cfg.redOrder u.rxopc u.dataWindow with
  | error e =>
    refine ⟨_, exec_xdCheck_of_error hrxs hdcb, fun e' he => ?_, nofun⟩
    cases he
    exact ⟨List.getLast?_concat, rfl, fun i => exec_xdRd_of_notChecked i (by simp)⟩
  | ok r =>
    refine ⟨_, exec_xdCheck_of_ok hdcb hrxs, nofun, fun r' hr => ?_⟩
    cases hr
    have hwindow := dcbWindow_xdAcceptState hdcb
    have hlen : (xdAcceptState u).dcblen.toNat = r.length := by
      rw [← hwindow, State.dcbWindow, State.length_cells, State.ok_dcblen]
    refine ⟨List.getLast?_concat, hlen, fun i hi => ?_⟩
    rw [← hwindow]
    exact exec_xdRd_dcbWindow i (xdAcceptState_dcb_le_cellCount hacc hrxs hdcb) rfl (hlen ▸ hi)

end Sys2Proof.Machine
end

section
/-! SUPPORT. The idle block and the operations without a unit (`45_system.md` R120, R121, R124): their command words and their
effect in every state. -/

namespace Sys2Proof.Machine

/-- Settles O2: of the ways a step can go on, an empty port leaves the one that holds the state. -/
theorem idleBlockHoldsState : Obligations.IdleBlockHoldsState := by
  intro s hport
  obtain ⟨-, hstep⟩ | ⟨item, rest, hgiven, -⟩ := step_cases s
  · exact hstep
  · cases hport.symm.trans hgiven

theorem exec_nop (s : State) : exec .nop s = .next (s.ok 0) := rfl

/-- Settles O43: the word has no operand, and the operation has one way to go on. -/
theorem nopResult : Obligations.NopResult := ⟨by decide, exec_nop⟩

/-! ## `REG.RD` -/

theorem encode_regRd (r : Octet) : encode (.regRd r) = .word (0xD00000000000 ||| r.zeroExtend 48 <<< 32) := by
  rw [encode, opw_a8]; rfl

theorem exec_regRd_of_register {r : Octet} {s : State} {v : BitVec 17} (h : s.register r = some v) :
    exec (.regRd r) s = .next (s.ok v) := by
  rw [exec, execRegRd, h]

theorem exec_regRd_of_reserved {r : Octet} {s : State} (h : 0x0A < r.toNat) :
    exec (.regRd r) s = .next (s.refuse .range) := by
  obtain ⟨_, hle, -, -⟩ | ⟨-, hexec⟩ := execRegRd_cases r s
  · exact absurd h (not_lt.mpr hle)
  · exact hexec

/-- The registers with their numbers, in the order of R22, each as a natural. -/
def State.numberedRegisters (s : State) : List (Octet × Nat) :=
  [(0x00, s.acc.toNat), (0x01, s.status.toNat), (0x02, s.txacc.toNat), (0x03, s.txrem.toNat), (0x04, s.rxcnt.toNat),
   (0x05, s.rxopc.toNat), (0x06, s.rxlen.toNat), (0x07, s.rxsum.toNat), (0x08, s.rxcalc.toNat), (0x09, s.dlen.toNat),
   (0x0A, s.dcblen.toNat)]

theorem register_of_mem_numberedRegisters (s : State) :
    ∀ p ∈ s.numberedRegisters, s.register p.1 = some (BitVec.ofNat 17 p.2) := by
  simp [State.numberedRegisters, State.register]

/-- The reset column of R22, as `REG.RD` answers it. -/
def resetColumn : List (Octet × BitVec 17) :=
  [(0x00, 0xFFFF), (0x01, 0), (0x02, 0xFFFF), (0x03, 0), (0x04, 0), (0x05, 0), (0x06, 0), (0x07, 0), (0x08, 0), (0x09, 0),
   (0x0A, 0)]

theorem resetColumn_eq : resetColumn = State.reset.numberedRegisters.map fun p => (p.1, BitVec.ofNat 17 p.2) := rfl

theorem register_reset : ∀ p ∈ resetColumn, State.reset.register p.1 = some p.2 := by
  rw [resetColumn_eq, List.forall_mem_map]
  exact register_of_mem_numberedRegisters State.reset

/-- Settles O44: a number of the register table is read there, a number above it is refused, and the reset column is the
table of the state after reset. -/
theorem regRdResult : Obligations.RegRdResult :=
  ⟨encode_regRd,
   fun s => ⟨fun p hp => exec_regRd_of_register (register_of_mem_numberedRegisters s p hp), fun _ => exec_regRd_of_reserved⟩,
   fun p hp => exec_regRd_of_register (register_reset p hp)⟩

end Sys2Proof.Machine
end

section
/-! SUPPORT. `BLK.RESET` (`45_system.md` R122), and that `REF` stays set along every other instruction (`10_state.md` R20),
meaning by meaning along its branches. -/

namespace Sys2Proof.Machine

theorem exec_blkReset (s : State) : exec .blkReset s = .next (s.blockReset.ok 0) := rfl

/-- Where the outcome `o` of `s` goes on, a `REF` that was set in `s` is still set. -/
def KeepsRef (s : State) (o : Host.Outcome State Fault Refusal) : Prop :=
  ∀ t, s.ref = true → o = .next t → t.ref = true

theorem KeepsRef.next {s t : State} (h : t.ref = s.ref) : KeepsRef s (.next t) := by
  intro _ hs ht
  cases ht
  exact h.trans hs

theorem KeepsRef.refuse {s : State} (r : Reason) : KeepsRef s (.next (s.refuse r)) := by
  intro _ _ ht
  cases ht
  exact s.refuse_ref r

theorem KeepsRef.fault {s : State} (r : Fault) : KeepsRef s (.fault r) := fun _ _ h => nomatch h

theorem KeepsRef.andThen {s : State} {o : Host.Outcome State Fault Refusal}
    {f : State → Host.Outcome State Fault Refusal} (ho : KeepsRef s o) (hf : ∀ u, KeepsRef u (f u)) :
    KeepsRef s (andThen o f) := by
  intro t hs ht
  obtain ⟨u, hu, ht⟩ := (andThen_eq_next _ _ _).mp ht
  exact hf u t (ho u hs hu) ht

/-! ## The meanings with more than one way to go on -/

theorem keepsRef_txStart (opc : Octet) (pin dlen : Word) (s : State) : KeepsRef s (execTxStart opc pin dlen s) := by
  obtain ⟨-, h⟩ | ⟨-, -, h⟩ | ⟨-, -, h⟩ | ⟨-, -, -, h⟩ := execTxStart_cases opc pin dlen s <;> rw [h]
  · exact .refuse .state
  · exact .refuse .range
  · exact .next rfl
  · exact .next rfl

theorem keepsRef_txData (b : Octet) (s : State) : KeepsRef s (execTxData b s) := by
  obtain ⟨-, h⟩ | ⟨-, -, h⟩ | ⟨-, -, h⟩ | ⟨-, -, h⟩ := execTxData_cases b s <;> rw [h]
  · exact .refuse .state
  · exact .fault .nothingOwed
  · exact .next rfl
  · exact .next rfl

theorem keepsRef_rxOct (b : Octet) (s : State) : KeepsRef s (execRxOct b s) := by
  obtain ⟨-, h⟩ | ⟨-, -, h⟩ | ⟨-, -, h⟩ := execRxOct_cases b s <;> rw [h]
  · exact .refuse .state
  · exact .next rfl
  · exact .next rfl

theorem keepsRef_rxEnd (s : State) : KeepsRef s (execRxEnd s) := by
  obtain ⟨-, h⟩ | ⟨-, -, h⟩ | ⟨-, -, -, h⟩ | ⟨-, -, -, -, h⟩ | ⟨-, -, -, -, h⟩ := execRxEnd_cases s <;> rw [h]
  · exact .refuse .state
  · exact .next rfl
  · exact .next rfl
  · exact .next rfl
  · exact .next rfl

theorem keepsRef_readCell (index : Nat) (s : State) : KeepsRef s (s.readCell index) := by
  obtain ⟨-, h⟩ | ⟨-, h⟩ := readCell_cases s index <;> rw [h]
  · exact .next rfl
  · exact .fault (.noSuchCell index)

theorem keepsRef_rxRd (i : Word) (s : State) : KeepsRef s (execRxRd i s) := by
  obtain ⟨-, h⟩ | ⟨-, -, h⟩ | ⟨-, -, h⟩ := execRxRd_cases i s <;> rw [h]
  · exact .refuse .state
  · exact .refuse .range
  · exact keepsRef_readCell _ s

theorem keepsRef_xdRd (i : Word) (s : State) : KeepsRef s (execXdRd i s) := by
  obtain ⟨-, h⟩ | ⟨-, -, h⟩ | ⟨-, -, h⟩ := execXdRd_cases i s <;> rw [h]
  · exact .refuse .state
  · exact .refuse .range
  · exact keepsRef_readCell _ s

theorem keepsRef_xdCheck (s : State) : KeepsRef s (execXdCheck s) := by
  obtain ⟨-, h⟩ | ⟨e, -, -, h⟩ | ⟨-, -, h⟩ := execXdCheck_cases s <;> rw [h]
  · exact .refuse .state
  · exact .next rfl
  · exact .next rfl

theorem keepsRef_regRd (r : Octet) (s : State) : KeepsRef s (execRegRd r s) := by
  obtain ⟨v, -, -, h⟩ | ⟨-, h⟩ := execRegRd_cases r s <;> rw [h]
  · exact .next rfl
  · exact .refuse .range

/-! ## The two wire frame rows -/

theorem keepsRef_sendData (data : List Octet) (s : State) : KeepsRef s (sendData data s) := by
  induction data generalizing s with
  | nil => exact .next rfl
  | cons b rest ih => exact (keepsRef_txData b s).andThen ih

theorem keepsRef_receive (octets : List Octet) (s : State) : KeepsRef s (receive octets s) := by
  induction octets generalizing s with
  | nil => exact .next rfl
  | cons b rest ih => exact (keepsRef_rxOct b s).andThen ih

theorem keepsRef_readDcbRequest (pin sum : Word) (s : State) : KeepsRef s (execReadDcbRequest pin sum s) :=
  (keepsRef_txStart 0x93 pin _ s).andThen (keepsRef_sendData readDcbData)

theorem keepsRef_readDcbResponse (octets : List Octet) (s : State) : KeepsRef s (execReadDcbResponse octets s) :=
  KeepsRef.andThen (.next rfl) fun opened => (keepsRef_receive octets opened).andThen fun filled =>
    (keepsRef_rxEnd filled).andThen keepsRef_xdCheck

/-- No instruction but `BLK.RESET` clears `REF` (R20, R122). -/
theorem keepsRef_exec {i : Instr} (hi : i ≠ .blkReset) (s : State) : KeepsRef s (exec i s) := by
  cases i with
  | nop | csInit | csNib | csOct | rxStart => exact .next rfl
  | txStart opc pin dlen => exact keepsRef_txStart opc pin dlen s
  | txData b => exact keepsRef_txData b s
  | rxOct b => exact keepsRef_rxOct b s
  | rxEnd => exact keepsRef_rxEnd s
  | rxRd k => exact keepsRef_rxRd k s
  | xdCheck => exact keepsRef_xdCheck s
  | xdRd k => exact keepsRef_xdRd k s
  | regRd r => exact keepsRef_regRd r s
  | blkReset => exact absurd rfl hi
  | readDcbRequest pin sum => exact keepsRef_readDcbRequest pin sum s
  | readDcbResponse octets => exact keepsRef_readDcbResponse octets s

/-- Settles O10: the operation has one way to go on, to the reset values, and every other instruction keeps `REF` set. -/
theorem blkResetResult : Obligations.BlkResetResult := by
  refine ⟨by decide, exec_blkReset, fun i s t href ht => ?_⟩
  by_cases hi : i = .blkReset
  · exact .inr hi
  · exact .inl (keepsRef_exec hi s t href ht)

end Sys2Proof.Machine
end

section
/-! SUPPORT. An operation is refused exactly as the refusal table says (`60_exceptions.md` R136, R137), meaning by meaning along
its branches. -/

namespace Sys2Proof.Machine

/-- The answers given so far, `REF` and `REFCODE` are the same. -/
def SameRefusals (s u : State) : Prop := u.answers = s.answers ∧ u.ref = s.ref ∧ u.refcode = s.refcode

/-- The outcomes the refusal table lets the operation `i` have in `s`: the refusal it names (R137), or, where it names none, the
answer `RC = 0` with no refusal recorded, or a stop of the model's own (log 8, log 9). -/
inductive FollowsRefusalTable (i : Instr) (s : State) : Host.Outcome State Fault Refusal → Prop
  | refuse {r : Reason} (hr : refusalOf i s = some r) : FollowsRefusalTable i s (.next (s.refuse r))
  | ok {u : State} {v : BitVec 17} (hnone : refusalOf i s = none) (hu : SameRefusals s u) :
      FollowsRefusalTable i s (.next (u.ok v))
  | fault {r : Fault} (hnone : refusalOf i s = none) : FollowsRefusalTable i s (.fault r)

theorem FollowsRefusalTable.eq_refuse {i : Instr} {s t : State} (h : FollowsRefusalTable i s (.next t)) {r : Reason}
    (hr : refusalOf i s = some r) : t = s.refuse r := by
  cases h with
  | refuse hr' => rw [Option.some.inj (hr'.symm.trans hr)]
  | ok hnone => exact nomatch hnone.symm.trans hr

theorem FollowsRefusalTable.answers_ok {i : Instr} {s t : State} (h : FollowsRefusalTable i s (.next t))
    (hnone : refusalOf i s = none) :
    (∃ v, t.answers = s.answers ++ [rspw 0 v]) ∧ t.ref = s.ref ∧ t.refcode = s.refcode := by
  cases h with
  | refuse hr => exact nomatch hr.symm.trans hnone
  | @ok _ v _ hu =>
    obtain ⟨hans, href, hcode⟩ := hu
    exact ⟨⟨v, congrArg (· ++ [okWord v]) hans⟩, href, hcode⟩

/-! ## The operations that can be refused -/

theorem txStart_followsRefusalTable (opc : Octet) (pin dlen : Word) (s : State) :
    FollowsRefusalTable (.txStart opc pin dlen) s (execTxStart opc pin dlen s) := by
  have hidle (hs : s.txs = .idle) : ¬ s.txs = .data := by simp [hs]
  have haccept (hs : s.txs = .idle) (hlen : dlen.toNat ≤ 65528) : refusalOf (.txStart opc pin dlen) s = none :=
    (if_neg (hidle hs)).trans (if_neg (not_lt.mpr hlen))
  obtain ⟨hs, h⟩ | ⟨hs, hlen, h⟩ | ⟨hs, rfl, h⟩ | ⟨hs, -, hlen, h⟩ := execTxStart_cases opc pin dlen s <;> rw [h]
  · exact .refuse (if_pos (eq_data_of_ne_idle hs))
  · exact .refuse ((if_neg (hidle hs)).trans (if_pos hlen))
  · exact .ok (haccept hs (by decide)) ⟨rfl, rfl, rfl⟩
  · exact .ok (haccept hs hlen) ⟨rfl, rfl, rfl⟩

theorem txData_followsRefusalTable (b : Octet) (s : State) : FollowsRefusalTable (.txData b) s (execTxData b s) := by
  have haccept (hs : s.txs = .data) : refusalOf (.txData b) s = none := if_neg (by simp [hs])
  obtain ⟨hs, h⟩ | ⟨hs, -, h⟩ | ⟨hs, -, h⟩ | ⟨hs, -, h⟩ := execTxData_cases b s <;> rw [h]
  · exact .refuse (if_pos (eq_idle_of_ne_data hs))
  · exact .fault (haccept hs)
  · exact .ok (haccept hs) ⟨rfl, rfl, rfl⟩
  · exact .ok (haccept hs) ⟨rfl, rfl, rfl⟩

theorem rxOct_followsRefusalTable (b : Octet) (s : State) : FollowsRefusalTable (.rxOct b) s (execRxOct b s) := by
  obtain ⟨hs, h⟩ | ⟨hs, -, h⟩ | ⟨hs, -, h⟩ := execRxOct_cases b s <;> rw [h]
  · exact .refuse (if_neg hs)
  · exact .ok (if_pos hs) ⟨rfl, rfl, rfl⟩
  · exact .ok (if_pos hs) ⟨rfl, rfl, rfl⟩

/-- A protocol error of `RX.END` is answered with `RC = 0`: it is no refusal (R135). -/
theorem rxEnd_followsRefusalTable (s : State) : FollowsRefusalTable .rxEnd s (execRxEnd s) := by
  obtain ⟨hs, h⟩ | ⟨hs, -, h⟩ | ⟨hs, -, -, h⟩ | ⟨hs, -, -, -, h⟩ | ⟨hs, -, -, -, h⟩ := execRxEnd_cases s <;> rw [h]
  · exact .refuse (if_neg hs)
  · exact .ok (if_pos hs) ⟨rfl, rfl, rfl⟩
  · exact .ok (if_pos hs) ⟨rfl, rfl, rfl⟩
  · exact .ok (if_pos hs) ⟨rfl, rfl, rfl⟩
  · exact .ok (if_pos hs) ⟨rfl, rfl, rfl⟩

/-- A failed check of `XD.CHECK` is answered with `RC = 0`: it is no refusal (R135). -/
theorem xdCheck_followsRefusalTable (s : State) : FollowsRefusalTable .xdCheck s (execXdCheck s) := by
  obtain ⟨hs, h⟩ | ⟨e, hs, -, h⟩ | ⟨hs, -, h⟩ := execXdCheck_cases s <;> rw [h]
  · exact .refuse (if_neg hs)
  · exact .ok (if_pos hs) ⟨rfl, rfl, rfl⟩
  · exact .ok (if_pos hs) ⟨rfl, rfl, rfl⟩

theorem readCell_followsRefusalTable {i : Instr} {s : State} (hnone : refusalOf i s = none) (index : Nat) :
    FollowsRefusalTable i s (s.readCell index) := by
  obtain ⟨-, h⟩ | ⟨-, h⟩ := readCell_cases s index <;> rw [h]
  · exact .ok hnone ⟨rfl, rfl, rfl⟩
  · exact .fault hnone

theorem rxRd_followsRefusalTable (k : Word) (s : State) : FollowsRefusalTable (.rxRd k) s (execRxRd k s) := by
  obtain ⟨hs, h⟩ | ⟨hs, hk, h⟩ | ⟨hs, hk, h⟩ := execRxRd_cases k s <;> rw [h]
  · exact .refuse (if_neg hs)
  · exact .refuse ((if_pos hs).trans (if_neg (not_lt.mpr hk)))
  · have haccept : refusalOf (.rxRd k) s = none := (if_pos hs).trans (if_pos hk)
    exact readCell_followsRefusalTable haccept _

theorem xdRd_followsRefusalTable (k : Word) (s : State) : FollowsRefusalTable (.xdRd k) s (execXdRd k s) := by
  obtain ⟨hs, h⟩ | ⟨hs, hk, h⟩ | ⟨hs, hk, h⟩ := execXdRd_cases k s <;> rw [h]
  · exact .refuse (if_neg hs)
  · exact .refuse ((if_pos hs).trans (if_neg (not_lt.mpr hk)))
  · have haccept : refusalOf (.xdRd k) s = none := (if_pos hs).trans (if_pos hk)
    exact readCell_followsRefusalTable haccept _

theorem regRd_followsRefusalTable (r : Octet) (s : State) : FollowsRefusalTable (.regRd r) s (execRegRd r s) := by
  obtain ⟨v, hr, -, h⟩ | ⟨hr, h⟩ := execRegRd_cases r s <;> rw [h]
  · exact .ok (if_neg (not_lt.mpr hr)) ⟨rfl, rfl, rfl⟩
  · exact .refuse (if_pos hr)

/-! ## Every operation -/

/-- Every operation but `BLK.RESET`, which clears `REF` and `REFCODE` (R122). -/
theorem exec_followsRefusalTable {i : Instr} (hi : isOperation i = true) (hreset : i ≠ .blkReset) (s : State) :
    FollowsRefusalTable i s (exec i s) := by
  cases i with
  | nop | csInit | csNib | csOct | rxStart => exact .ok rfl ⟨rfl, rfl, rfl⟩
  | txStart opc pin dlen => exact txStart_followsRefusalTable opc pin dlen s
  | txData b => exact txData_followsRefusalTable b s
  | rxOct b => exact rxOct_followsRefusalTable b s
  | rxEnd => exact rxEnd_followsRefusalTable s
  | rxRd k => exact rxRd_followsRefusalTable k s
  | xdCheck => exact xdCheck_followsRefusalTable s
  | xdRd k => exact xdRd_followsRefusalTable k s
  | regRd r => exact regRd_followsRefusalTable r s
  | blkReset => exact absurd rfl hreset
  | readDcbRequest | readDcbResponse => exact nomatch hi

/-- Settles O47: `BLK.RESET` is never refused and clears both fields; every other operation has an outcome the table lets it
have; a word that is no operation is refused by definition. -/
theorem refusalsFollowTable : Obligations.RefusalsFollowTable := by
  refine ⟨fun i s t hi ht => ?_, fun w s hw => runItem_word_of_decodeWord_eq_none hw s⟩
  by_cases hreset : i = .blkReset
  · subst hreset
    obtain rfl : s.blockReset.ok 0 = t := Host.Outcome.next.inj ht
    refine ⟨nofun, fun _ => ⟨⟨0, rfl⟩, ?_⟩⟩
    rw [if_pos rfl]
    exact ⟨rfl, rfl⟩
  · have hfollows : FollowsRefusalTable i s (.next t) := ht ▸ exec_followsRefusalTable hi hreset s
    refine ⟨fun _ => hfollows.eq_refuse, fun hnone => ?_⟩
    rw [if_neg hreset]
    exact hfollows.answers_ok hnone

end Sys2Proof.Machine
end

section
/-! SUPPORT. The two resets (`70_reset_and_hazards.md` R150, `45_system.md` R122): one set of values, from every state. -/

namespace Sys2Proof.Machine

theorem runItem_hwReset (run : Instr → State → Host.Outcome State Fault Refusal) (s : State) :
    runItem run .hwReset s = .next s.blockReset := rfl

/-- The fields of `STATUS` are those of the block after power-on reset. -/
@[simp] theorem status_blockReset (s : State) : s.blockReset.status = 0x0000 :=
  calc
    s.blockReset.status = State.reset.status := rfl
    _ = 0x0000 := rfl

/-- The answer is no part of `STATUS`. -/
@[simp] theorem status_ok (s : State) (v : BitVec 17) : (s.ok v).status = s.status := rfl

/-- Settles O9: both resets leave the reset values, `BLK.RESET` with an answer that touches none of them. -/
theorem resetValues : Obligations.ResetValues := by
  refine ⟨fun s => ⟨s.blockReset, s.blockReset.ok 0, runItem_hwReset exec s, exec_blkReset s, fun v hv => ?_⟩,
    rfl, rfl, rfl, rfl⟩
  obtain rfl | rfl : v = s.blockReset ∨ v = s.blockReset.ok 0 := by simpa using hv
  · simp
  · simp

end Sys2Proof.Machine
end

section
/-! SUPPORT. How long the two windows last (`70_reset_and_hazards.md` R159): on an accepted frame every operation but
`RX.START`, `XD.CHECK` and `BLK.RESET` leaves the whole RX unit alone, and `XD.CHECK` finds again what it found. -/

namespace Sys2Proof.Machine

section AcceptedFrame
variable {s t : State}

/-! ## Operations that leave the RX unit alone -/

theorem readCell_sameRx {index : Nat} (ht : s.readCell index = .next t) : SameRx s t := by
  obtain ⟨-, h⟩ | ⟨-, h⟩ := readCell_cases s index <;> cases h.symm.trans ht
  exact .refl s

theorem execRxRd_sameRx {i : Word} (ht : execRxRd i s = .next t) : SameRx s t := by
  obtain ⟨-, h⟩ | ⟨-, -, h⟩ | ⟨-, -, h⟩ := execRxRd_cases i s
  · cases h.symm.trans ht; exact .refl s
  · cases h.symm.trans ht; exact .refl s
  · exact readCell_sameRx (h.symm.trans ht)

theorem execXdRd_sameRx {i : Word} (ht : execXdRd i s = .next t) : SameRx s t := by
  obtain ⟨-, h⟩ | ⟨-, -, h⟩ | ⟨-, -, h⟩ := execXdRd_cases i s
  · cases h.symm.trans ht; exact .refl s
  · cases h.symm.trans ht; exact .refl s
  · exact readCell_sameRx (h.symm.trans ht)

/-- On an accepted frame `RX.OCT` and `RX.END` are refused, the two reads only answer, and the operations of the other units
touch no register of the RX unit (R10). -/
theorem exec_sameRx_of_accepted {i : Instr} (hs : s.rxs = .ok) (hop : isOperation i = true) (hstart : i ≠ .rxStart)
    (hreset : i ≠ .blkReset) (hcheck : i ≠ .xdCheck) (ht : exec i s = .next t) : SameRx s t := by
  have hrecv : s.rxs ≠ .recv := by simp [hs]
  by_cases hu : unitOf i = .rx
  · cases i with
    | rxStart => exact absurd rfl hstart
    | rxOct b => cases (exec_rxOct_of_notReceiving b hrecv).symm.trans ht; exact .refl s
    | rxEnd => cases (exec_rxEnd_of_notReceiving hrecv).symm.trans ht; exact .refl s
    | rxRd k => exact execRxRd_sameRx ht
    | xdCheck => exact absurd rfl hcheck
    | xdRd k => exact execXdRd_sameRx ht
    | readDcbResponse => cases hop
    | _ => cases hu
  · exact (exec_sameOthers hreset ht).rx hu

/-! ## `XD.CHECK` -/

/-- `XD.CHECK` judges the frame and leaves the frame itself alone (R110). -/
theorem execXdCheck_keepsFrame (ht : execXdCheck s = .next t) :
    t.rxs = s.rxs ∧ t.dlen = s.dlen ∧ ∀ k, t.cell k = s.cell k := by
  obtain ⟨-, h⟩ | ⟨e, -, -, h⟩ | ⟨-, -, h⟩ := execXdCheck_cases s <;> cases h.symm.trans ht <;>
    exact ⟨rfl, rfl, s.cell_congr _ rfl rfl⟩

theorem xdAcceptState_eq_self (hxds : s.xds = .ok) (hxderr : s.xderr = none) (hdcblen : s.dcblen = s.dlen - 4) :
    xdAcceptState s = s := by
  rw [xdAcceptState, ← hxds, ← hxderr, ← hdcblen]

/-- `XD.CHECK` repeated on a frame that it accepted finds the same RawDCB, and only answers: the two invariants tie what the
registers hold to what `check_dcb` says. -/
theorem exec_xdCheck_again (hinv : s.Inv) (hframe : s.FrameInv) (hxds : s.xds = .ok) :
    exec .xdCheck s = .next (s.ok 0) := by
  obtain ⟨-, -, -, hshut, ⟨hchecked, -, herr⟩, -, -⟩ := hinv
  have hs : s.rxs = .ok := rxs_ok_of_xds_ok hshut hxds
  obtain ⟨-, -, -, -, hdcb, -⟩ := hframe hs
  have hxderr : s.xderr = none := by simpa [hxds] using herr
  have hdcblen : s.dcblen = s.dlen - 4 :=
    BitVec.eq_of_toNat_eq ((hchecked hxds).1.trans (toNat_xdAcceptState_dcblen (hdcb hxds)).symm)
  rw [exec_xdCheck_of_ok (hdcb hxds) hs, xdAcceptState_eq_self hxds hxderr hdcblen]

end AcceptedFrame

/-! ## The statement -/

/-- Settles O36: the RX unit is left alone, but by `XD.CHECK`, which keeps the frame and finds again the RawDCB it found. -/
theorem acceptedWindowLasts : Obligations.AcceptedWindowLasts := by
  refine fun i s t hs hop ht => ⟨fun hstart hreset => ?_, ?_⟩
  · by_cases hcheck : i = .xdCheck
    · subst hcheck
      obtain ⟨hrxs, hdlen, hcell⟩ := execXdCheck_keepsFrame ht
      refine ⟨hrxs.trans hs, hdlen, hcell, fun hinv hframe hxds => ?_⟩
      cases (exec_xdCheck_again hinv hframe hxds).symm.trans ht
      exact ⟨hxds, rfl⟩
    · have hsame : SameRx s t := exec_sameRx_of_accepted hs hop hstart hreset hcheck ht
      exact ⟨hsame.rxs.trans hs, hsame.dlen, hsame.cell, fun _ _ hxds => ⟨hsame.xds.trans hxds, hsame.dcblen⟩⟩
  · rintro (rfl | rfl)
    · cases (exec_rxStart s).symm.trans ht
      exact ⟨nofun, rfl, rfl, rfl⟩
    · cases (exec_blkReset s).symm.trans ht
      exact ⟨nofun, rfl, rfl, rfl⟩

end Sys2Proof.Machine
end

section
/-! SUPPORT. Decoder and encoder, each the inverse of the other (`30_encoding.md` R50 to R55, `44_read_dcb_exchange.md` R105,
R107): the command words, and what a wire frame is read as. -/

namespace Sys2Proof

open Machine

/-! ## Command words -/

theorem low_nibble_zero_append (n : Nibble) : ((0 : Nibble) ++ n).extractLsb' 0 4 = n := BitVec.extractLsb'_append_eq_right

theorem high_nibble_zero_append (n : Nibble) : ((0 : Nibble) ++ n).extractLsb' 4 4 = 0 := BitVec.extractLsb'_append_eq_left

/-- The operand nibble stands in the low half of `A8`, and the unused high half is zero. -/
theorem decodeWord_csNib (n : Nibble) : decodeWord (opw 0x2 ((0 : Nibble) ++ n) 0 0) = some (.csNib n) := by
  have hlow := low_nibble_zero_append n
  have hhigh := high_nibble_zero_append n
  simp_all [decodeWord]

/-- A command word is the encoding of none but an operation, and every operation is well formed. -/
theorem wf_of_encode_eq_word {i : Instr} {w : CmdWord} (h : encode i = .word w) : i.wf = true := by
  cases i with
  | readDcbResponse octets => cases h
  | _ => rfl

/-! ## Wire frames -/

theorem decodeFrame_of_response {octets : List Octet} (h : octets.head? = some 0x94) :
    decodeFrame octets = some (.readDcbResponse octets) := if_pos h

/-- The pin and the checksum field are read back from their offsets. -/
theorem decodeFrame_requestFrame (pin sum : Word) : decodeFrame (requestFrame pin sum) = some (.readDcbRequest pin sum) := by
  have hpin : b2w ((requestFrame pin sum).getD 3 0) ((requestFrame pin sum).getD 4 0) = pin := b2w_of_w2b_eq rfl
  have hsum : b2w ((requestFrame pin sum).getD 9 0) ((requestFrame pin sum).getD 10 0) = sum := b2w_of_w2b_eq rfl
  have hhead : (requestFrame pin sum).head? ≠ some 0x94 := by simp [requestFrame]
  rw [decodeFrame, if_neg hhead, hpin, hsum, if_pos rfl]

/-- The two ways in which an octet sequence is an instruction. -/
theorem decodeFrame_eq_some_cases {octets : List Octet} {i : Instr} (h : decodeFrame octets = some i) :
    (octets.head? = some 0x94 ∧ i = .readDcbResponse octets) ∨
      ∃ pin sum, octets = requestFrame pin sum ∧ i = .readDcbRequest pin sum := by
  simp only [decodeFrame] at h
  split_ifs at h with hhead hrequest
  · exact .inl ⟨hhead, (Option.some.inj h).symm⟩
  · exact .inr ⟨_, _, hrequest, (Option.some.inj h).symm⟩

theorem decodeFrame_eq_none {octets : List Octet} (hresponse : octets.head? ≠ some 0x94)
    (hrequest : ∀ pin sum, octets ≠ requestFrame pin sum) : decodeFrame octets = none := by
  refine Option.eq_none_iff_forall_ne_some.mpr fun i hi => ?_
  obtain ⟨hhead, -⟩ | ⟨pin, sum, hoctets, -⟩ := decodeFrame_eq_some_cases hi
  · exact hresponse hhead
  · exact hrequest pin sum hoctets

/-! ## The two round trips -/

/-- Settles O6, instruction by instruction: the fields of a command word are read back as they were put in, and a wire frame
is known by its octets. -/
theorem decodeOfEncode : Obligations.DecodeOfEncode := by
  intro i hwf
  cases i with
  | csNib n => exact decodeWord_csNib n
  | readDcbRequest pin sum => exact decodeFrame_requestFrame pin sum
  | readDcbResponse octets => exact decodeFrame_of_response (by simpa [Instr.wf] using hwf)
  | _ => simp [encode, decode, decodeWord]

/-- Settles O7: a word is the encoding of its operation; a frame is kept whole, or has the one form of a request. -/
theorem encodeOfDecode : Obligations.EncodeOfDecode := by
  intro item i h
  cases item with
  | word w =>
    have hencode := encode_of_decodeWord h
    exact ⟨hencode, wf_of_encode_eq_word hencode⟩
  | frame octets =>
    obtain ⟨hhead, rfl⟩ | ⟨pin, sum, rfl, rfl⟩ := decodeFrame_eq_some_cases h
    · exact ⟨rfl, by simp [Instr.wf, hhead]⟩
    · exact ⟨rfl, rfl⟩
  | hwReset => cases h

/-- Settles O8: each word of the spec is evaluated, and each frame. -/
theorem wordsOfTheSpecDecode : Obligations.WordsOfTheSpecDecode := by
  unfold Obligations.WordsOfTheSpecDecode
  decide

end Sys2Proof
end

section
/-! SUPPORT. One step on the item at the head of the port (`20_memory.md` section 5, `30_encoding.md` R52), and the
fields of a response word (R51). -/

namespace Sys2Proof.Machine

theorem step_of_port_cons {s : State} {item : PortItem} {rest : List PortItem} (h : s.port = item :: rest) :
    step s = runItem exec item { s with port := rest } := by
  simp only [step, fetch_cons s item rest h]

theorem runItem_of_decode {item : PortItem} {i : Instr} (h : decode item = some i) (s : State) :
    runItem exec item s = exec i s := by
  obtain ⟨rfl, -⟩ | ⟨j, hj, hrun⟩ | ⟨-, hnone, -⟩ := runItem_cases exec item s
  · cases h
  · cases hj.symm.trans h; exact hrun
  · cases hnone.symm.trans h

/-- Settles O1: the item is taken, and one that decodes runs its instruction. -/
theorem stepRunsDecodedInstruction : Obligations.StepRunsDecodedInstruction := fun _ _ _ hport =>
  ⟨step_of_port_cons hport, fun _ hi => (step_of_port_cons hport).trans (runItem_of_decode hi _)⟩

theorem runItem_frame_of_decodeFrame_eq_none {octets : List Octet} (h : decodeFrame octets = none) (s : State) :
    runItem exec (.frame octets) s = .next (s.refuse .illegal) := by
  simp only [runItem, h]

/-- Settles O3: a sequence of neither wire type decodes to nothing, and such an item is refused. -/
theorem foreignFrameIsRefused : Obligations.ForeignFrameIsRefused := fun _ _ _ hport hresponse hrequest =>
  (step_of_port_cons hport).trans (runItem_frame_of_decodeFrame_eq_none (decodeFrame_eq_none hresponse hrequest) _)

/-- Settles O46: the two parts of the word are read back, and the three codes are compared. -/
theorem responseWordFields : Obligations.ResponseWordFields := fun _ _ =>
  ⟨BitVec.extractLsb'_append_eq_left, BitVec.extractLsb'_append_eq_right, rfl, rfl, rfl, rfl⟩

end Sys2Proof.Machine
end

section
/-! SUPPORT. The two wire frame rows as sequences of operations (`30_encoding.md` R58), so that what every operation keeps every
instruction keeps. -/

namespace Sys2Proof.Machine

theorem exec_readDcbRequest (pin sum : Word) (s : State) : exec (.readDcbRequest pin sum) s = execSeq (xdReq pin) s :=
  calc exec (.readDcbRequest pin sum) s
    _ = andThen (exec (.txStart 0x93 pin 4) s) (sendData readDcbData) := rfl
    _ = execSeq (xdReq pin) s := by rw [funext (sendData_eq readDcbData)]; rfl

theorem exec_readDcbResponse (octets : List Octet) (s : State) :
    exec (.readDcbResponse octets) s = execSeq (xdRsp octets) s := by
  have hsplit : xdRsp octets = .rxStart :: (octets.map .rxOct ++ [.rxEnd, .xdCheck]) := by simp [xdRsp, rxFrame]
  have hend : ∀ u, andThen (execRxEnd u) execXdCheck = execSeq [.rxEnd, .xdCheck] u := fun u => by
    rw [execSeq_cons, funext (execSeq_single .xdCheck)]; rfl
  rw [hsplit, execSeq_cons, funext (execSeq_append _ _), ← funext (receive_eq octets), ← funext hend]
  rfl

/-- Settles O41: a request is `XD.REQ` written out, and a response is `XD.RSP`. -/
theorem frameRowsArePseudoOperations : Obligations.FrameRowsArePseudoOperations := by
  refine ⟨exec_readDcbRequest, fun octets s => ?_⟩
  rw [exec_readDcbResponse, xdRsp, rxFrame, List.append_assoc]
  rfl

/-- Settles O26: the four data octets are sent as a frame of any data is (R85). -/
theorem readDcbRequestResult : Obligations.ReadDcbRequestResult := fun pin sum s hs =>
  ⟨(exec_readDcbRequest pin sum s).trans (txFrameRefinesBuild 0x93 pin readDcbData s hs (by decide)), rfl, rfl⟩

/-! ## What every operation keeps -/

theorem isOperation_of_mem_xdReq (pin : Word) : ∀ i ∈ xdReq pin, isOperation i = true := by
  simp [xdReq, txFrame, isOperation]

theorem isOperation_of_mem_xdRsp (octets : List Octet) : ∀ i ∈ xdRsp octets, isOperation i = true := by
  simp only [xdRsp, rxFrame, List.mem_append, List.mem_cons, List.mem_map, List.not_mem_nil, or_false]
  rintro i (((rfl | ⟨b, -, rfl⟩) | rfl) | rfl) <;> rfl

/-- Every instruction does what a sequence of the fourteen operations does. -/
theorem exists_operations (i : Instr) :
    ∃ ops : List Instr, (∀ j ∈ ops, isOperation j = true) ∧ ∀ s, exec i s = execSeq ops s := by
  by_cases hi : isOperation i = true
  · exact ⟨[i], by simpa using hi, fun s => (execSeq_single i s).symm⟩
  · cases i with
    | readDcbRequest pin sum => exact ⟨xdReq pin, isOperation_of_mem_xdReq pin, exec_readDcbRequest pin sum⟩
    | readDcbResponse octets => exact ⟨xdRsp octets, isOperation_of_mem_xdRsp octets, exec_readDcbResponse octets⟩
    | _ => exact absurd rfl hi

section Kept
variable {P : State → Prop} (hkeep : ∀ i s t, isOperation i = true → P s → exec i s = .next t → P t)
include hkeep

theorem execSeq_keeps {ops : List Instr} {s t : State} (hops : ∀ i ∈ ops, isOperation i = true) (hs : P s)
    (ht : execSeq ops s = .next t) : P t := by
  induction ops generalizing s with
  | nil => cases ht; exact hs
  | cons i rest ih =>
    rw [List.forall_mem_cons] at hops
    obtain ⟨u, hu, ht⟩ := (andThen_eq_next _ _ _).mp ht
    exact ih hops.2 (hkeep i s u hops.1 hs hu) ht

/-- What every operation keeps every instruction keeps. -/
theorem exec_keeps {i : Instr} {s t : State} (hs : P s) (ht : exec i s = .next t) : P t := by
  obtain ⟨ops, hops, hexec⟩ := exists_operations i
  exact execSeq_keeps hkeep hops hs ((hexec s).symm.trans ht)

variable (hnext : ∀ i s, isOperation i = true → P s → ∃ t, exec i s = .next t)
include hnext

theorem execSeq_goesOn {ops : List Instr} {s : State} (hops : ∀ i ∈ ops, isOperation i = true) (hs : P s) :
    ∃ t, execSeq ops s = .next t := by
  induction ops generalizing s with
  | nil => exact ⟨s, rfl⟩
  | cons i rest ih =>
    rw [List.forall_mem_cons] at hops
    obtain ⟨u, hu⟩ := hnext i s hops.1 hs
    obtain ⟨t, ht⟩ := ih hops.2 (hkeep i s u hops.1 hs hu)
    exact ⟨t, by rw [execSeq_cons, hu, andThen_next, ht]⟩

/-- Where every operation goes on, and to where every operation goes on, every instruction goes on. -/
theorem exec_goesOn (i : Instr) {s : State} (hs : P s) : ∃ t, exec i s = .next t := by
  obtain ⟨ops, hops, hexec⟩ := exists_operations i
  rw [hexec]
  exact execSeq_goesOn hkeep hnext hops hs

end Kept

end Sys2Proof.Machine
end

section
/-! SUPPORT. What a step leaves unchanged whatever the state is: the configuration, `REF` once it is set, the stream, and the
buffer (`10_state.md` R20, R24; `20_memory.md` R30, R34). -/

namespace Sys2Proof.Machine

theorem SameUnit.refl (u : BlockUnit) (s : State) : SameUnit u s s := by
  cases u with
  | cs => exact SameCs.refl s
  | tx => exact SameTx.refl s
  | rx => exact SameRx.refl s
  | none => trivial

/-- No unit owns the configuration, and the registers of a unit that an instruction does not belong to stay. -/
theorem SameOthers.cfg {u : BlockUnit} {s t : State} (h : SameOthers u s t) : t.cfg = s.cfg := by
  by_cases hu : u = .cs
  · exact (h.tx (by simp [hu])).1.1.symm
  · exact (h.cs hu).1.symm

theorem exec_cfg {i : Instr} {s t : State} (ht : exec i s = .next t) : t.cfg = s.cfg := by
  by_cases hi : i = .blkReset
  · subst hi; cases ht; rfl
  · exact (exec_sameOthers hi ht).cfg

theorem exec_txout {i : Instr} {s t : State} (ht : exec i s = .next t) (hu : unitOf i ≠ .tx) : t.txout = s.txout := by
  by_cases hi : i = .blkReset
  · subst hi; cases ht; rfl
  · exact ((exec_sameOthers hi ht).tx hu).2

/-- An instruction of the TX unit puts its pairs after those already in the stream (R34). -/
theorem exec_txout_extends {i : Instr} {s t : State} (ht : exec i s = .next t) : s.txout <+: t.txout := by
  by_cases hu : unitOf i = .tx
  · obtain ⟨_, _, _, -, pairs, -, -, hout, -⟩ :=
      (localOp_exec i (by simp [hu])).own s s t (.refl _ s) ht
    exact ⟨pairs, hout.symm⟩
  · exact ⟨[], by rw [List.append_nil, exec_txout ht hu]⟩

/-- What holds of every state a step can leave: the same state, or, with the item taken, the reset state, a refusal, or what an
instruction leaves. -/
theorem step_leaves {Q : State → Prop} {s t : State} (ht : step s = .next t) (hidle : Q s)
    (hreset : ∀ rest, Q ({ s with port := rest } : State).blockReset)
    (hrefuse : ∀ rest, Q (({ s with port := rest } : State).refuse .illegal))
    (hexec : ∀ i rest u, exec i { s with port := rest } = .next u → Q u) : Q t := by
  obtain ⟨-, h⟩ | ⟨item, rest, -, ⟨-, h⟩ | ⟨i, -, h⟩ | ⟨-, -, h⟩⟩ := step_cases s
  · cases h.symm.trans ht; exact hidle
  · cases h.symm.trans ht; exact hreset rest
  · exact hexec i rest t (h.symm.trans ht)
  · cases h.symm.trans ht; exact hrefuse rest

/-- Settles O52: no item changes the configuration. -/
theorem configurationIsFixed : Obligations.ConfigurationIsFixed := fun s _ ht =>
  step_leaves (Q := fun t => t.cfg = s.cfg) ht rfl (fun _ => rfl) (fun _ => rfl) fun _ _ _ hu => (exec_cfg hu :)

/-- Settles O50: an instruction appends, and an item that is none leaves the stream as it was. -/
theorem txoutOnlyGrows : Obligations.TxoutOnlyGrows := by
  refine ⟨fun s t ht => ?_, fun i s t => exec_txout⟩
  exact step_leaves (Q := fun t => s.txout <+: t.txout) ht List.prefix_rfl (fun _ => List.prefix_rfl)
    (fun _ => List.prefix_rfl) fun _ _ _ hu => (exec_txout_extends hu :)

/-- The one item that runs `BLK.RESET` is its command word. -/
theorem eq_word_of_decode_blkReset {item : PortItem} (h : decode item = some .blkReset) : item = .word 0xE00000000000 := by
  rw [← (encodeOfDecode item .blkReset h).1]
  decide

/-- Settles O48: every instruction but `BLK.RESET` keeps `REF` set, and a refusal sets it. -/
theorem refIsSticky : Obligations.RefIsSticky := by
  intro s t href ht
  obtain ⟨-, h⟩ | ⟨item, rest, hport, hitem⟩ := step_cases s
  · cases h.symm.trans ht; exact .inl href
  · rw [hport, List.head?_cons]
    obtain ⟨rfl, -⟩ | ⟨i, hi, h⟩ | ⟨-, -, h⟩ := hitem
    · exact .inr (.inl rfl)
    · by_cases hreset : i = .blkReset
      · subst hreset; exact .inr (.inr (congrArg some (eq_word_of_decode_blkReset hi)))
      · exact .inl (keepsRef_exec hreset { s with port := rest } t href (h.symm.trans ht))
    · cases h.symm.trans ht; exact .inl rfl

/-! ## The buffer -/

theorem execRxEnd_cell {s t : State} (ht : execRxEnd s = .next t) (k : Nat) : t.cell k = s.cell k := by
  obtain ⟨-, h⟩ | ⟨-, -, h⟩ | ⟨-, -, -, h⟩ | ⟨-, -, -, -, h⟩ | ⟨-, -, -, -, h⟩ := execRxEnd_cases s <;>
    cases h.symm.trans ht <;> exact s.cell_congr _ rfl rfl k

/-- Settles O51: the other units do not touch the buffer, and of the operations of the RX unit `RX.START` clears registers only,
while the rest read. -/
theorem bufferIsWrittenOnlyByRxOct : Obligations.BufferIsWrittenOnlyByRxOct := by
  intro i s t ht hoct hresponse hreset k
  by_cases hu : unitOf i = .rx
  · cases i with
    | rxStart => cases ht; exact s.cell_congr _ rfl rfl k
    | rxOct b => exact absurd rfl (hoct b)
    | rxEnd => exact execRxEnd_cell ht k
    | rxRd i => exact (execRxRd_sameRx ht).cell k
    | xdCheck => exact (execXdCheck_keepsFrame ht).2.2 k
    | xdRd i => exact (execXdRd_sameRx ht).cell k
    | readDcbResponse octets => exact absurd rfl (hresponse octets)
    | _ => cases hu
  · exact ((exec_sameOthers hreset ht).rx hu).cell k

end Sys2Proof.Machine
end

section
/-! SUPPORT. The invariant of reachable states (`10_state.md` R25), part by part along the operations: the TX unit by its
transition table, `REF` by the refusal table, and the RX unit meaning by meaning. -/

namespace Sys2Proof.Machine

/-- What the invariant says of the RX unit: R25 (b) to (h), R18, R19. -/
abbrev State.RxPart (s : State) : Prop := s.RxInv ∧ s.AcceptedInv ∧ s.ShutInv ∧ s.XdInv ∧ s.CellInv

theorem inv_iff_parts (s : State) : s.Inv ↔ s.TxInv ∧ s.RxPart ∧ s.RefInv := by
  constructor
  · rintro ⟨htx, hrx, hacc, hshut, hxd, href, hcell⟩
    exact ⟨htx, ⟨hrx, hacc, hshut, hxd, hcell⟩, href⟩
  · rintro ⟨htx, ⟨hrx, hacc, hshut, hxd, hcell⟩, href⟩
    exact ⟨htx, hrx, hacc, hshut, hxd, href, hcell⟩

/-! ## The TX unit -/

/-- R25 (a), R15, of a pair `TXS` and `TXREM`. -/
abbrev TxFits (p : TxState × Word) : Prop := (p.1 = .data ↔ p.2 ≠ 0) ∧ p.2.toNat ≤ 65528

theorem txFits_idle : TxFits (.idle, 0) := by decide

/-- The transition table of R86 keeps R25 (a), row by row. -/
theorem txTable_fits {i : Instr} {txs : TxState} {txrem : Word} (h : TxFits (txs, txrem)) :
    TxFits (txTable i txs txrem) := by
  obtain ⟨howed, hmax⟩ := h
  unfold txTable
  split
  · split_ifs with hzero hlen
    · exact txFits_idle
    · exact ⟨iff_of_true rfl hzero, hlen⟩
    · exact ⟨howed, hmax⟩
  · split_ifs with hone
    · exact txFits_idle
    · have hsome : txrem ≠ 0 := howed.mp rfl
      have hleft : txrem - 1 ≠ 0 := by bv_omega
      exact ⟨iff_of_true rfl hleft, by bv_omega⟩
  · exact txFits_idle
  · exact ⟨howed, hmax⟩

theorem operation_keeps_txInv {i : Instr} {s t : State} (hop : isOperation i = true) (hs : s.TxInv)
    (ht : exec i s = .next t) : t.TxInv := by
  have hfits : TxFits (txTable i s.txs s.txrem) := txTable_fits hs
  rwa [← txTransitionsFollowTable.1 i s t hop ht] at hfits

/-! ## `REF` and `REFCODE` -/

theorem operation_keeps_refInv {i : Instr} {s t : State} (hop : isOperation i = true) (hs : s.RefInv)
    (ht : exec i s = .next t) : t.RefInv := by
  obtain ⟨hrefuse, haccept⟩ := refusalsFollowTable.1 i s t hop ht
  cases hr : refusalOf i s with
  | some r => rw [hrefuse r hr]; exact iff_of_true rfl nofun
  | none =>
    obtain ⟨-, hafter⟩ := haccept hr
    split_ifs at hafter with hreset <;> obtain ⟨href, hcode⟩ := hafter
    · rw [State.RefInv, href, hcode]; decide
    · rwa [State.RefInv, href, hcode]

/-! ## The RX unit -/

/-- The state `t` with the RX unit of `s`. -/
def State.withRxOf (t s : State) : State :=
  { t with cfg := s.cfg, rxs := s.rxs, rxcnt := s.rxcnt, rxopc := s.rxopc, rxlen := s.rxlen, rxsum := s.rxsum,
           rxcalc := s.rxcalc, dlen := s.dlen, rxerr := s.rxerr, xds := s.xds, xderr := s.xderr, dcblen := s.dcblen,
           rxbuf := s.rxbuf, rxEpoch := s.rxEpoch }

theorem SameRx.eq_withRxOf {s t : State} (h : SameRx s t) : t = t.withRxOf s := by
  rw [SameRx] at h
  simp only [State.withRxOf, h]

/-- What speaks of the RX unit alone holds after a change of the rest. -/
theorem SameRx.rxPart {s t : State} (h : SameRx s t) (hs : s.RxPart) : t.RxPart := by
  rw [h.eq_withRxOf]
  exact hs

/-- With no sequence in progress and nothing found, the invariant asks only for the canonical form of `RXBUF`. -/
theorem rxPart_rxOpen {s : State} (hs : s.CellInv) : (s.rxOpen.ok 0).RxPart := by
  simp [State.RxPart, State.RxInv, State.AcceptedInv, State.ShutInv, State.XdInv, State.CellInv, hs.1]

theorem rxPart_blockReset (s : State) : s.blockReset.RxPart := by
  simp [State.RxPart, State.RxInv, State.AcceptedInv, State.ShutInv, State.XdInv, State.CellInv]

/-- The octet stored is in the sequence from here on, and its cell is written. -/
theorem cellInv_storeOctet {s : State} (b : Octet) (hs : s.CellInv) (hroom : s.rxcnt.toNat ≤ 65534) :
    ({ s.setCell s.rxcnt.toNat b with rxcnt := s.rxcnt + 1 } : State).CellInv := by
  obtain ⟨hwf, hheld⟩ := hs
  have hsucc : (s.rxcnt + 1).toNat = s.rxcnt.toNat + 1 := by bv_omega
  refine ⟨Memory.wf_write _ _ b (by rw [cellCount]; omega) hwf, fun i hi => ?_⟩
  rw [State.setCell_rxbuf, Memory.lookup_write]
  split
  · rfl
  · exact hheld i (by simp only [hsucc] at hi; omega)

theorem execRxOct_keeps_rxPart {b : Octet} {s t : State} (hs : s.RxPart) (ht : execRxOct b s = .next t) : t.RxPart := by
  have ⟨⟨hmax, herr⟩, hacc, hshut, hxd, hcell⟩ := hs
  have hacc' := execRxOct_keeps_acceptedInv hacc ht
  obtain ⟨-, h⟩ | ⟨-, hroom, h⟩ | ⟨-, hfull, h⟩ := execRxOct_cases b s <;> cases h.symm.trans ht
  · exact hs
  · have hsucc : (s.rxcnt + 1).toNat ≤ 65536 := by bv_omega
    exact ⟨⟨hsucc, herr⟩, hacc', hshut, hxd, cellInv_storeOctet b hcell hroom⟩
  · refine ⟨⟨le_rfl, herr⟩, hacc', hshut, hxd, hcell.1, fun i hi => hcell.2 i ?_⟩
    have hheld : i < min 65536 65535 := hi
    omega

section RxEnd
variable {s : State} (hs : s.RxPart) (hrxs : s.rxs = .recv)
include hs hrxs

theorem xds_ne_ok_of_receiving : s.xds ≠ .ok := by
  obtain ⟨-, -, hshut, -⟩ := hs
  simp [hshut (by simp [hrxs])]

/-- While a sequence is received nothing is checked, so the header fields may be written. -/
theorem rxPart_rxHeadState : (rxHeadState s).RxPart := by
  have hunchecked := xds_ne_ok_of_receiving hs hrxs
  obtain ⟨hrx, -, hshut, ⟨-, hxd⟩, hcell⟩ := hs
  exact ⟨hrx, acceptedInv_of_rxs_ne (by simp [rxHeadState, hrxs]), hshut, ⟨fun hok => absurd hok hunchecked, hxd⟩, hcell⟩

theorem rxPart_rxSumState : (rxSumState s).RxPart := by
  obtain ⟨hrx, -, hshut, hxd, hcell⟩ := rxPart_rxHeadState hs hrxs
  exact ⟨hrx, acceptedInv_of_rxs_ne (s := rxSumState s) (by simp [rxSumState, rxHeadState, hrxs]), hshut, hxd, hcell⟩

theorem rxPart_rxFail (e : FrameError) : (s.rxFail e).RxPart := by
  obtain ⟨⟨hmax, -⟩, -, hshut, hxd, hcell⟩ := hs
  exact ⟨⟨hmax, iff_of_true rfl nofun⟩, acceptedInv_of_rxs_ne nofun, fun _ => hshut (by simp [hrxs]), hxd, hcell⟩

theorem execRxEnd_keeps_rxPart {t : State} (ht : execRxEnd s = .next t) : t.RxPart := by
  have hunchecked := xds_ne_ok_of_receiving hs hrxs
  have hhead := rxPart_rxHeadState hs hrxs
  have hsum := rxPart_rxSumState hs hrxs
  have hacc := execRxEnd_keeps_acceptedInv (acceptedInv_of_rxs_ne (by simp [hrxs])) ht
  obtain ⟨hne, -⟩ | ⟨-, -, h⟩ | ⟨-, -, -, h⟩ | ⟨-, -, -, -, h⟩ | ⟨-, -, -, -, h⟩ := execRxEnd_cases s
  · exact absurd hrxs hne
  all_goals cases h.symm.trans ht
  · exact rxPart_rxFail hs hrxs _
  · exact rxPart_rxFail hhead hrxs _
  · exact rxPart_rxFail hsum hrxs _
  · obtain ⟨⟨hmax, -⟩, -, -, ⟨-, hxd⟩, hcell⟩ := hsum
    exact ⟨⟨hmax, iff_of_false nofun (not_not.mpr rfl)⟩, hacc, fun hne => absurd rfl hne,
      ⟨fun hok => absurd hok hunchecked, hxd⟩, hcell⟩

end RxEnd

section XdCheck
variable {s : State} (hs : s.RxPart) (hrxs : s.rxs = .ok)
include hs hrxs

theorem rxPart_xdFail (e : DcbError) : (s.xdFail e).RxPart := by
  obtain ⟨hrx, hacc, -, -, hcell⟩ := hs
  exact ⟨hrx, hacc, fun hne => absurd hrxs hne, ⟨nofun, fun _ => rfl, iff_of_true rfl nofun⟩, hcell⟩

/-- Data that pass the checks have their opcode, and at least two octets after the four before RawDCB. -/
theorem rxPart_xdAcceptState (hpass : dcbVerdict s = none) : ((xdAcceptState s).ok 0).RxPart := by
  obtain ⟨hrx, hacc, -, -, hcell⟩ := hs
  obtain ⟨hopc, hsix, -⟩ := (dcbCheck_eq_iff _).mp hpass
  have hlen : (s.dlen - 4).toNat = s.dlen.toNat - 4 := by bv_omega
  have hchecked : (s.dlen - 4).toNat = s.dlen.toNat - 4 ∧ 2 ≤ (s.dlen - 4).toNat ∧ s.rxopc = 0x94 := ⟨hlen, by omega, hopc⟩
  exact ⟨hrx, hacc, fun hne => absurd hrxs hne,
    ⟨fun _ => hchecked, fun hne => absurd rfl hne, iff_of_false nofun (not_not.mpr rfl)⟩, hcell⟩

theorem execXdCheck_keeps_rxPart {t : State} (ht : execXdCheck s = .next t) : t.RxPart := by
  obtain ⟨hne, -⟩ | ⟨e, -, -, h⟩ | ⟨-, hpass, h⟩ := execXdCheck_cases s
  · exact absurd hrxs hne
  · cases h.symm.trans ht; exact rxPart_xdFail hs hrxs e
  · cases h.symm.trans ht; exact rxPart_xdAcceptState hs hrxs hpass

end XdCheck

theorem operation_keeps_rxPart {i : Instr} {s t : State} (hop : isOperation i = true) (hs : s.RxPart)
    (ht : exec i s = .next t) : t.RxPart := by
  have ⟨_, _, _, _, hcell⟩ := hs
  by_cases hu : unitOf i = .rx
  · cases i with
    | rxStart => cases ht; exact rxPart_rxOpen hcell
    | rxOct b => exact execRxOct_keeps_rxPart hs ht
    | rxEnd =>
      by_cases hrxs : s.rxs = .recv
      · exact execRxEnd_keeps_rxPart hs hrxs ht
      · cases (exec_rxEnd_of_notReceiving hrxs).symm.trans ht; exact hs
    | rxRd k => exact (execRxRd_sameRx ht).rxPart hs
    | xdCheck =>
      by_cases hrxs : s.rxs = .ok
      · exact execXdCheck_keeps_rxPart hs hrxs ht
      · cases (exec_xdCheck_of_notAccepted hrxs).symm.trans ht; exact hs
    | xdRd k => exact (execXdRd_sameRx ht).rxPart hs
    | readDcbResponse => cases hop
    | _ => cases hu
  · by_cases hreset : i = .blkReset
    · subst hreset; cases ht; exact rxPart_blockReset s
    · exact ((exec_sameOthers hreset ht).rx hu).rxPart hs

end Sys2Proof.Machine
end

section
/-! SUPPORT. Every step from a state of the invariant goes on and leaves a state of it (`10_state.md` R25, `60_exceptions.md`
R142). -/

namespace Sys2Proof.Machine

/-! ## The invariant along a step -/

theorem operation_keeps_inv {i : Instr} {s t : State} (hop : isOperation i = true) (hs : s.Inv)
    (ht : exec i s = .next t) : t.Inv := by
  rw [inv_iff_parts] at hs ⊢
  obtain ⟨htx, hrx, href⟩ := hs
  exact ⟨operation_keeps_txInv hop htx ht, operation_keeps_rxPart hop hrx ht, operation_keeps_refInv hop href ht⟩

theorem exec_keeps_inv {i : Instr} {s t : State} (hs : s.Inv) (ht : exec i s = .next t) : t.Inv :=
  exec_keeps (P := State.Inv) (fun _ _ _ => operation_keeps_inv) hs ht

theorem inv_blockReset (s : State) : s.blockReset.Inv :=
  (inv_iff_parts _).mpr ⟨txFits_idle, rxPart_blockReset s, iff_of_false nofun (not_not.mpr rfl)⟩

/-- A refusal writes `REF` and `REFCODE` together and nothing else that the invariant speaks of. -/
theorem inv_refuse {s : State} (hs : s.Inv) (r : Reason) : (s.refuse r).Inv := by
  obtain ⟨htx, hrx, -⟩ := (inv_iff_parts s).mp hs
  exact (inv_iff_parts _).mpr ⟨htx, hrx, iff_of_true rfl nofun⟩

/-- Settles O54: each of the three parts is kept by every operation, so by the wire frame rows too; the invariant does not speak
of the port. -/
theorem stepKeepsInvariant : Obligations.StepKeepsInvariant := fun s _ hs ht =>
  step_leaves ht hs (fun _ => inv_blockReset _) (fun rest => inv_refuse (s := { s with port := rest }) hs .illegal)
    fun _ rest _ hu => exec_keeps_inv (s := { s with port := rest }) hs hu

/-- Settles O53: at the beginning of time the registers are as after any reset. -/
theorem invariantHoldsAtReset : Obligations.InvariantHoldsAtReset :=
  ⟨inv_blockReset State.reset, fun cfg port => inv_blockReset (boot cfg port)⟩

/-! ## No stop -/

theorem execTxData_goesOn {s : State} (hs : s.TxInv) (b : Octet) : ∃ t, execTxData b s = .next t := by
  obtain ⟨-, h⟩ | ⟨hdata, hnone, -⟩ | ⟨-, -, h⟩ | ⟨-, -, h⟩ := execTxData_cases b s
  · exact ⟨_, h⟩
  · exact absurd hnone (hs.1.mp hdata)
  · exact ⟨_, h⟩
  · exact ⟨_, h⟩

theorem execRxRd_goesOn {s : State} (hs : s.AcceptedInv) (i : Word) : ∃ t, execRxRd i s = .next t := by
  obtain ⟨-, h⟩ | ⟨-, -, h⟩ | ⟨hok, hi, -⟩ := execRxRd_cases i s
  · exact ⟨_, h⟩
  · exact ⟨_, h⟩
  · exact ⟨_, exec_rxRd_of_inData i hs hok hi⟩

theorem execXdRd_goesOn {s : State} (hs : s.Inv) (i : Word) : ∃ t, execXdRd i s = .next t := by
  obtain ⟨-, h⟩ | ⟨-, -, h⟩ | ⟨hok, hi, -⟩ := execXdRd_cases i s
  · exact ⟨_, h⟩
  · exact ⟨_, h⟩
  · have hcells : s.dcbBase + s.dcblen.toNat ≤ cellCount := (dcbWindow_le_received hs hok).trans (Nat.min_le_right _ _)
    exact ⟨_, exec_xdRd_of_inDcb i hcells hok hi⟩

/-- The meanings with more than one way to go on have one for each state, but for the three that can stop. -/
theorem operation_goesOn {i : Instr} {s : State} (hop : isOperation i = true) (hs : s.Inv) : ∃ t, exec i s = .next t := by
  have ⟨htx, _, hacc, _⟩ := hs
  cases i with
  | nop | csInit | csNib | csOct | rxStart | blkReset => exact ⟨_, rfl⟩
  | txStart opc pin dlen =>
    obtain ⟨-, h⟩ | ⟨-, -, h⟩ | ⟨-, -, h⟩ | ⟨-, -, -, h⟩ := execTxStart_cases opc pin dlen s <;> exact ⟨_, h⟩
  | txData b => exact execTxData_goesOn htx b
  | rxOct b => obtain ⟨-, h⟩ | ⟨-, -, h⟩ | ⟨-, -, h⟩ := execRxOct_cases b s <;> exact ⟨_, h⟩
  | rxEnd =>
    obtain ⟨-, h⟩ | ⟨-, -, h⟩ | ⟨-, -, -, h⟩ | ⟨-, -, -, -, h⟩ | ⟨-, -, -, -, h⟩ := execRxEnd_cases s <;> exact ⟨_, h⟩
  | rxRd k => exact execRxRd_goesOn hacc k
  | xdCheck => obtain ⟨-, h⟩ | ⟨e, -, -, h⟩ | ⟨-, -, h⟩ := execXdCheck_cases s <;> exact ⟨_, h⟩
  | xdRd k => exact execXdRd_goesOn hs k
  | regRd r => obtain ⟨v, -, -, h⟩ | ⟨-, h⟩ := execRegRd_cases r s <;> exact ⟨_, h⟩
  | readDcbRequest | readDcbResponse => cases hop

theorem exec_answers (i : Instr) {s : State} (hs : s.Inv) : ∃ t, exec i s = .next t :=
  exec_goesOn (P := State.Inv) (fun _ _ _ => operation_keeps_inv) (fun _ _ => operation_goesOn) i hs

/-- Settles O55: an item that is an instruction goes on as every instruction does, and any other resets or is refused. -/
theorem stepAlwaysAnswers : Obligations.StepAlwaysAnswers := by
  intro s hs
  obtain ⟨-, h⟩ | ⟨item, rest, -, ⟨-, h⟩ | ⟨i, -, h⟩ | ⟨-, -, h⟩⟩ := step_cases s
  · exact ⟨_, h⟩
  · exact ⟨_, h⟩
  · obtain ⟨t, ht⟩ := exec_answers i (s := { s with port := rest }) hs
    exact ⟨t, h.trans ht⟩
  · exact ⟨_, h⟩

/-! ## Where the model stops -/

theorem readCell_of_cellCount_le {s : State} {index : Nat} (h : cellCount ≤ index) :
    s.readCell index = .fault (.noSuchCell index) := if_neg (not_lt.mpr h)

/-- Settles O56: each of the three stops is one branch, and in a state of the invariant that instruction does not stop. -/
theorem stopsStandOutsideTheInvariant : Obligations.StopsStandOutsideTheInvariant := by
  have hinv {i : Instr} {s : State} {r : Fault} (hstop : exec i s = .fault r) : exec i s = .fault r ∧ ¬ s.Inv :=
    ⟨hstop, fun hs => by obtain ⟨t, ht⟩ := exec_answers i hs; cases hstop.symm.trans ht⟩
  refine ⟨fun b s hs hrem => hinv ?_, fun i s hs hi hpast => hinv ?_, fun i s hs hi hpast => hinv ?_⟩
  · exact (if_neg (not_not.mpr hs)).trans (if_pos hrem)
  · exact (if_neg (not_not.mpr hs)).trans ((if_neg (not_le.mpr hi)).trans (readCell_of_cellCount_le hpast))
  · exact (if_neg (not_not.mpr hs)).trans ((if_neg (not_le.mpr hi)).trans (readCell_of_cellCount_le hpast))

end Sys2Proof.Machine
end

section
/-! SUPPORT. The Frame invariant of an accepted frame (`10_state.md` R13, `44_read_dcb_exchange.md` R110): `RX.END`
establishes it, `XD.CHECK` extends it, and every other operation leaves the frame alone or gives it up. -/

namespace Sys2Proof.Machine

theorem frameInv_of_rxs_ne {s : State} (h : s.rxs ≠ .ok) : s.FrameInv := fun hok => absurd hok h

theorem SameRx.frameInv {s t : State} (h : SameRx s t) (hs : s.FrameInv) : t.FrameInv := by
  rw [h.eq_withRxOf]
  exact hs

/-- A frame that `RX.END` accepts is what `parse` says of the octets received, and nothing is checked yet. -/
theorem execRxEnd_frameInv {s t : State} (hinv : s.RxPart) (hrxs : s.rxs = .recv) (ht : execRxEnd s = .next t) :
    t.FrameInv := by
  obtain ⟨-, -, hshut, ⟨-, -, herr⟩, -⟩ := hinv
  obtain ⟨-, hxds⟩ := hshut (by simp [hrxs])
  obtain ⟨e, r, -, h, -⟩ | ⟨hparse, h⟩ := execRxEnd_judges hrxs <;> cases h.symm.trans ht
  · exact frameInv_of_rxs_ne nofun
  · refine fun _ => ⟨hparse, rfl, rfl, rfl, fun hok => ?_, fun e he => ?_⟩
    · cases hxds.symm.trans hok
    · have hxderr : s.xderr ≠ none := by simp [show s.xderr = some e from he]
      cases hxds.symm.trans (herr.mpr hxderr)

/-- `XD.CHECK` records what `check_dcb` says of the frame, and leaves the frame alone. -/
theorem execXdCheck_frameInv {s t : State} (hs : s.FrameInv) (hrxs : s.rxs = .ok) (ht : execXdCheck s = .next t) :
    t.FrameInv := by
  obtain ⟨hparse, hlen, hsum, hcalc, -, -⟩ := hs hrxs
  cases hdcb : checkDcb s.cfg.redOrder s.rxopc s.dataWindow with
  | error e =>
    cases (exec_xdCheck_of_error hrxs hdcb).symm.trans ht
    refine fun _ => ⟨hparse, hlen, hsum, hcalc, nofun, fun e' he => ?_⟩
    cases he
    exact hdcb
  | ok r =>
    cases (exec_xdCheck_of_ok hdcb hrxs).symm.trans ht
    refine fun _ => ⟨hparse, hlen, hsum, hcalc, fun _ => ?_, nofun⟩
    rw [dcbWindow_xdAcceptState hdcb]
    exact hdcb

/-- Only `RX.END` leads to `R_OK` (R99). -/
theorem rxTable_eq_ok {i : Instr} {rxs : RxState} {accepts : Bool} (h : rxTable i rxs accepts = .ok) :
    rxs = .ok ∨ (i = .rxEnd ∧ rxs = .recv) := by
  unfold rxTable at h
  split at h
  · cases h
  · exact .inr ⟨rfl, rfl⟩
  · cases h
  · exact .inl h

/-- From an accepted frame, or by `RX.END`: no other operation leads to `R_OK` (R99). -/
theorem operation_keeps_frameInv {i : Instr} {s t : State} (hop : isOperation i = true) (hinv : s.Inv) (hs : s.FrameInv)
    (ht : exec i s = .next t) : t.FrameInv := by
  by_cases hrxs : s.rxs = .ok
  · by_cases hcheck : i = .xdCheck
    · subst hcheck; exact execXdCheck_frameInv hs hrxs ht
    · obtain ⟨-, hlost⟩ := acceptedWindowLasts i s t hrxs hop ht
      by_cases hstart : i = .rxStart
      · exact frameInv_of_rxs_ne (hlost (.inl hstart)).1
      · by_cases hreset : i = .blkReset
        · exact frameInv_of_rxs_ne (hlost (.inr hreset)).1
        · exact (exec_sameRx_of_accepted hrxs hop hstart hreset hcheck ht).frameInv hs
  · by_cases hok : t.rxs = .ok
    · obtain hwas | ⟨rfl, hrecv⟩ := rxTable_eq_ok ((rxTransitionsFollowTable.1 i s t hop ht).symm.trans hok)
      · exact absurd hwas hrxs
      · obtain ⟨-, hpart, -⟩ := (inv_iff_parts s).mp hinv
        exact execRxEnd_frameInv hpart hrecv ht
    · exact frameInv_of_rxs_ne hok

/-- The two invariants are kept together along an instruction, since the Frame invariant needs the other between the
operations of a wire frame row. -/
theorem exec_keeps_frameInv {i : Instr} {s t : State} (hinv : s.Inv) (hs : s.FrameInv) (ht : exec i s = .next t) :
    t.FrameInv :=
  (exec_keeps (P := fun s => s.Inv ∧ s.FrameInv)
    (fun _ _ _ hop h ht => ⟨operation_keeps_inv hop h.1 ht, operation_keeps_frameInv hop h.1 h.2 ht⟩) ⟨hinv, hs⟩ ht).2

/-- Settles O58: every instruction keeps the Frame invariant, a reset gives up the frame, and a refusal leaves it alone. -/
theorem stepKeepsFrameInvariant : Obligations.StepKeepsFrameInvariant := fun s _ hinv hs ht =>
  step_leaves (Q := State.FrameInv) ht hs (fun _ => frameInv_of_rxs_ne nofun) (fun _ => hs)
    fun _ rest _ hu => exec_keeps_frameInv (s := { s with port := rest }) hinv hs hu

/-! ## Runs -/

theorem run_succ_of_step {s u : State} (k : Nat) (hu : step s = .next u) :
    Host.Core.run Sys2Proof.core (k + 1) s = Host.Core.run Sys2Proof.core k u := by
  simp only [Host.Core.run, show Sys2Proof.core.step s = .next u from hu]

theorem run_meets_invariants (k : Nat) {s : State} (hinv : s.Inv) (hframe : s.FrameInv) :
    ∃ t, Host.Core.run Sys2Proof.core k s = .next t ∧ State.Inv t ∧ State.FrameInv t := by
  induction k generalizing s with
  | zero => exact ⟨s, rfl, hinv, hframe⟩
  | succ k ih =>
    obtain ⟨u, hu⟩ := stepAlwaysAnswers s hinv
    rw [run_succ_of_step k hu]
    exact ih (stepKeepsInvariant s u hinv hu) (stepKeepsFrameInvariant s u hinv hframe hu)

/-- Settles O59: both invariants hold at the beginning of time, no frame being accepted, and a run keeps them step by step. -/
theorem everyRunMeetsInvariants : Obligations.EveryRunMeetsInvariants := fun cfg port k =>
  run_meets_invariants k (invariantHoldsAtReset.2 cfg port) (frameInv_of_rxs_ne nofun)

end Sys2Proof.Machine
end

section
/-! SUPPORT. A whole read-DCB response, from every state (`44_read_dcb_exchange.md` section 3, `30_encoding.md` R58): the
frame and its judgement, and then the check. -/

namespace Sys2Proof.Machine

/-- What receiving and judging a sequence leaves aside: the checker, the record of refusals and the port. -/
structure SameAside (s t : State) : Prop where
  xds : t.xds = s.xds
  ref : t.ref = s.ref
  refcode : t.refcode = s.refcode
  port : t.port = s.port

theorem SameAside.trans {r s t : State} (h : SameAside r s) (h' : SameAside s t) : SameAside r t :=
  ⟨h'.xds.trans h.xds, h'.ref.trans h.ref, h'.refcode.trans h.refcode, h'.port.trans h.port⟩

theorem execRxOct_sameAside {b : Octet} {s t : State} (hs : s.rxs = .recv) (ht : exec (.rxOct b) s = .next t) :
    SameAside s t := by
  obtain ⟨hne, -⟩ | ⟨-, -, h⟩ | ⟨-, -, h⟩ := execRxOct_cases b s
  · exact absurd hs hne
  · cases h.symm.trans ht; exact ⟨rfl, rfl, rfl, rfl⟩
  · cases h.symm.trans ht; exact ⟨rfl, rfl, rfl, rfl⟩

theorem execSeq_rxOct_sameAside {octets : List Octet} {s t : State} (hs : s.rxs = .recv)
    (ht : execSeq (octets.map .rxOct) s = .next t) : SameAside s t := by
  induction octets generalizing s with
  | nil => cases ht; exact ⟨rfl, rfl, rfl, rfl⟩
  | cons b rest ih =>
    obtain ⟨u, hu, ht⟩ := (andThen_eq_next _ _ _).mp ht
    exact (execRxOct_sameAside hs hu).trans (ih ((execRxOct_rxs hu).trans hs) ht)

theorem execRxEnd_sameAside {s t : State} (hs : s.rxs = .recv) (ht : execRxEnd s = .next t) : SameAside s t := by
  obtain ⟨hne, -⟩ | ⟨-, -, h⟩ | ⟨-, -, -, h⟩ | ⟨-, -, -, -, h⟩ | ⟨-, -, -, -, h⟩ := execRxEnd_cases s
  · exact absurd hs hne
  all_goals cases h.symm.trans ht; exact ⟨rfl, rfl, rfl, rfl⟩

/-- From every state, a whole sequence is received and judged as `parse` judges it (R98), and the rest is left aside. -/
theorem execSeq_rxFrame_judges (octets : List Octet) (s : State) :
    ∃ t, execSeq (rxFrame octets) s = .next t ∧ SameAside (s.rxOpen.ok 0) t ∧ t.cfg = s.cfg ∧
      ((∃ e, parse s.cfg octets = .error e ∧ t.rxs = .err ∧ t.rxerr = some e) ∨
        (parse s.cfg octets = .ok (t.rxopc, t.dataWindow) ∧ t.rxs = .ok)) := by
  obtain ⟨u, hu, hrecv⟩ := (receiving_nil s).execSeq_rxOct octets
  rw [List.nil_append] at hrecv
  have haside : SameAside (s.rxOpen.ok 0) u := execSeq_rxOct_sameAside rfl hu
  rw [execSeq_rxFrame hu, ← hrecv.parse_received]
  obtain ⟨e, r, hparse, hend, -⟩ | ⟨hparse, hend⟩ := execRxEnd_judges hrecv.rxs
  · exact ⟨_, hend, haside.trans (execRxEnd_sameAside hrecv.rxs hend), (exec_cfg (i := .rxEnd) hend).trans hrecv.cfg,
      .inl ⟨e, hparse, rfl, rfl⟩⟩
  · exact ⟨_, hend, haside.trans (execRxEnd_sameAside hrecv.rxs hend), hrecv.cfg, .inr ⟨hparse, rfl⟩⟩

theorem exec_readDcbResponse_of_rxFrame {octets : List Octet} {s u : State} (hu : execSeq (rxFrame octets) s = .next u) :
    exec (.readDcbResponse octets) s = exec .xdCheck u := by
  rw [exec_readDcbResponse, xdRsp, execSeq_append, hu, andThen_next, execSeq_single]

/-- A response touches no other unit (R10). -/
theorem exec_readDcbResponse_sameOthers {octets : List Octet} {s t : State} (ht : exec (.readDcbResponse octets) s = .next t) :
    SameTx s t ∧ SameCs s t ∧ t.txout = s.txout := by
  obtain ⟨hcs, htx, -⟩ := exec_sameOthers (by simp) ht
  obtain ⟨hsame, hout⟩ := htx (by simp [unitOf])
  exact ⟨hsame, hcs (by simp [unitOf]), hout⟩

/-- Settles O42: the frame is judged, then checked if it was accepted; if it was not, the check is refused. -/
theorem readDcbResponseResult : Obligations.ReadDcbResponseResult := by
  intro octets s
  obtain ⟨u, hu, ⟨hxds, href, hcode, hport⟩, hcfg, ⟨e, hparse, hrxs, hrxerr⟩ | ⟨hparse, hrxs⟩⟩ :=
    execSeq_rxFrame_judges octets s
  · have hexec := (exec_readDcbResponse_of_rxFrame hu).trans (exec_xdCheck_of_notAccepted (by simp [hrxs]))
    obtain ⟨htx, hcs, hout⟩ := exec_readDcbResponse_sameOthers hexec
    refine ⟨_, hexec, fun _ _ _ hok => (nomatch hparse.symm.trans hok), fun _ _ _ hok => (nomatch hparse.symm.trans hok),
      fun e' he => ?_, htx, hcs, hout, hport⟩
    cases hparse.symm.trans he
    exact ⟨hrxs, hrxerr, hxds, rfl, rfl⟩
  · cases hdcb : checkDcb s.cfg.redOrder u.rxopc u.dataWindow with
    | error e =>
      have hfound : checkDcb u.cfg.redOrder u.rxopc u.dataWindow = .error e := by rw [hcfg, hdcb]
      have hexec := (exec_readDcbResponse_of_rxFrame hu).trans (exec_xdCheck_of_error hrxs hfound)
      obtain ⟨htx, hcs, hout⟩ := exec_readDcbResponse_sameOthers hexec
      refine ⟨_, hexec, fun opc data r hok hr => ?_, fun opc data e' hok he => ?_,
        fun _ herr => (nomatch hparse.symm.trans herr), htx, hcs, hout, hport⟩ <;> cases hparse.symm.trans hok
      · cases hdcb.symm.trans hr
      · cases hdcb.symm.trans he
        exact ⟨hrxs, rfl, rfl, rfl, href, hcode⟩
    | ok r =>
      have hfound : checkDcb u.cfg.redOrder u.rxopc u.dataWindow = .ok r := by rw [hcfg, hdcb]
      have hexec := (exec_readDcbResponse_of_rxFrame hu).trans (exec_xdCheck_of_ok hfound hrxs)
      obtain ⟨htx, hcs, hout⟩ := exec_readDcbResponse_sameOthers hexec
      refine ⟨_, hexec, fun opc data r' hok hr => ?_, fun opc data e hok he => ?_,
        fun _ herr => (nomatch hparse.symm.trans herr), htx, hcs, hout, hport⟩ <;> cases hparse.symm.trans hok
      · cases hdcb.symm.trans hr
        exact ⟨hrxs, rfl, dcbWindow_xdAcceptState hfound, href, hcode⟩
      · cases hdcb.symm.trans he

end Sys2Proof.Machine
end

section
/-! SUPPORT. The checksum with the default table (`41_checksum.md` R79; PRESUMED, log 4): every step is linear over exclusive
or, so it divides by the generator, is affine, and shows every single damaged octet. -/

namespace Sys2Proof.Machine

/-! ## Linear over exclusive or -/

theorem defaultTable_xor (j k : Nibble) :
    defaultTable[(j ^^^ k).toNat]'(BitVec.isLt _) = defaultTable[j.toNat]'(j.isLt) ^^^ defaultTable[k.toNat]'(k.isLt) := by
  revert j k
  decide

theorem xor_xor_xor_comm {w : Nat} (a b c d : BitVec w) : (a ^^^ b) ^^^ (c ^^^ d) = (a ^^^ c) ^^^ (b ^^^ d) := by
  ac_rfl

theorem nibStep_xor (a x : Word) (n m : Nibble) :
    nibStep defaultTable (a ^^^ x) (n ^^^ m) = nibStep defaultTable a n ^^^ nibStep defaultTable x m := by
  have hindex : (a ^^^ x).extractLsb' 12 4 ^^^ (n ^^^ m) = (a.extractLsb' 12 4 ^^^ n) ^^^ (x.extractLsb' 12 4 ^^^ m) := by
    rw [BitVec.extractLsb'_xor, xor_xor_xor_comm]
  simp only [nibStep, hindex, defaultTable_xor, BitVec.shiftLeft_xor_distrib]
  exact xor_xor_xor_comm _ _ _ _

theorem octStep_xor (a x : Word) (b c : Octet) :
    octStep defaultTable (a ^^^ x) (b ^^^ c) = octStep defaultTable a b ^^^ octStep defaultTable x c := by
  simp only [octStep, BitVec.extractLsb'_xor, nibStep_xor]

/-- A difference in the accumulator runs along a sequence as it would along zeros. -/
theorem csumFrom_xor (a x : Word) (s : List Octet) :
    csumFrom defaultTable (a ^^^ x) s =
      csumFrom defaultTable a s ^^^ csumFrom defaultTable x (List.replicate s.length 0) := by
  induction s generalizing a x with
  | nil => rfl
  | cons b rest ih =>
    have hstep : octStep defaultTable (a ^^^ x) b = octStep defaultTable a b ^^^ octStep defaultTable x 0#8 := by
      rw [← octStep_xor, BitVec.xor_zero]
    rw [csumFrom_cons, hstep, ih]
    rfl

/-- Settles O15: on both sides the difference is the one that runs along as many zeros. -/
theorem defaultChecksumIsAffine : Obligations.DefaultChecksumIsAffine := by
  intro a x s
  have hdiff (c : Word) : csumFrom defaultTable (c ^^^ x) s ^^^ csumFrom defaultTable c s =
      csumFrom defaultTable x (List.replicate s.length 0) := by
    rw [csumFrom_xor, BitVec.xor_comm, ← BitVec.xor_assoc, BitVec.xor_self, BitVec.zero_xor]
  have hzero := hdiff 0#16
  rw [BitVec.zero_xor] at hzero
  exact (hdiff a).trans hzero.symm

/-! ## Division by the generator -/

theorem bitStep_xor (a x : Word) (b c : Bool) : bitStep (a ^^^ x) (b ^^ c) = bitStep a b ^^^ bitStep x c := by
  have hstep (v : Word) (d : Bool) : bitStep v d = (v <<< 1) ^^^ (if v.msb != d then 0x1021 else 0) := by
    unfold bitStep; split <;> simp
  rw [hstep, hstep, hstep, BitVec.shiftLeft_xor_distrib, xor_xor_xor_comm, BitVec.msb_xor]
  congr 1
  cases a.msb <;> cases x.msb <;> cases b <;> cases c <;> rfl

theorem nibbleDivision_xor (a x : Word) (n m : Nibble) :
    nibbleDivision (a ^^^ x) (n ^^^ m) = nibbleDivision a n ^^^ nibbleDivision x m := by
  simp only [nibbleDivision, List.foldl_cons, List.foldl_nil, BitVec.getLsbD_xor, bitStep_xor]

/-- A word is its high nibble and its twelve low bits. -/
theorem word_eq_xor (a : Word) : (a.extractLsb' 12 4 ++ 0#12) ^^^ (0#4 ++ a.extractLsb' 0 12) = a := by
  rw [BitVec.xor_append, BitVec.xor_zero, BitVec.zero_xor]
  exact (BitVec.extractLsb'_append_extractLsb'_eq_extractLsb' rfl).trans BitVec.extractLsb'_eq_self

theorem nibbleDivision_high (k n : Nibble) : nibbleDivision (k ++ 0#12) n = nibStep defaultTable (k ++ 0#12) n := by
  revert k n
  decide

/-- Without an operand the index of the nibble step is the high nibble. -/
theorem toNat_nibIndex_zero (a : Word) : (a.extractLsb' 12 4 ^^^ 0#4).toNat = a.toNat / 2 ^ 12 := by
  rw [toNat_nibIndex, Nat.shiftRight_eq_div_pow, BitVec.toNat_ofNat, Nat.zero_mod, Nat.xor_zero]

theorem nibStep_zero_of_small {a : Word} (h : a.toNat < 2 ^ 12) : nibStep defaultTable a 0#4 = a <<< 4 := by
  have hindex : a.extractLsb' 12 4 ^^^ 0#4 = 0#4 :=
    BitVec.eq_of_toNat_eq ((toNat_nibIndex_zero a).trans (Nat.div_eq_of_lt h))
  have hfirst : defaultTable[(0#4).toNat]'(BitVec.isLt _) = 0#16 := rfl
  simp only [nibStep, hindex, hfirst, BitVec.xor_zero]

/-- While the high bit is 0 a bit step takes no generator. -/
theorem bitStep_of_small {a : Word} (h : a.toNat < 2 ^ 15) : bitStep a false = a <<< 1 := by
  have hmsb : a.msb = false := by rw [BitVec.msb_eq_decide]; simpa using h
  simp [bitStep, hmsb]

/-- While the high nibble is 0 neither way does more than shift. -/
theorem nibbleDivision_of_small {a : Word} (h : a.toNat < 2 ^ 12) : nibbleDivision a 0#4 = nibStep defaultTable a 0#4 :=
  calc nibbleDivision a 0#4
    _ = bitStep (bitStep (bitStep (bitStep a false) false) false) false := rfl
    _ = a <<< 1 <<< 1 <<< 1 <<< 1 := by
      rw [bitStep_of_small (a := a), bitStep_of_small (a := a <<< 1), bitStep_of_small (a := a <<< 1 <<< 1),
        bitStep_of_small (a := a <<< 1 <<< 1 <<< 1)] <;> bv_omega
    _ = a <<< 4 := by simp only [← BitVec.shiftLeft_add]
    _ = nibStep defaultTable a 0#4 := (nibStep_zero_of_small h).symm

theorem toNat_zero_append (v : BitVec 12) : (0#4 ++ v).toNat < 2 ^ 12 := by
  rw [BitVec.toNat_append, BitVec.toNat_ofNat, Nat.zero_mod, Nat.zero_shiftLeft, Nat.zero_or]
  exact v.isLt

/-- Settles O14: both ways are linear, and they agree on the high nibble with the operand and on the low bits. -/
theorem defaultTableDividesBitwise : Obligations.DefaultTableDividesBitwise := by
  intro a n
  rw [← word_eq_xor a, ← BitVec.xor_zero (x := n), nibStep_xor, nibbleDivision_xor, nibbleDivision_high,
    nibbleDivision_of_small (toNat_zero_append _)]

/-! ## Single damaged octets -/

/-- The low nibble of a table word is its index. -/
theorem defaultTable_low_nibble (k : Nibble) : (defaultTable[k.toNat]'(k.isLt)).toNat % 16 = k.toNat := by
  revert k
  decide

/-- A difference in the accumulator outlives a nibble: its high nibble shows in the table word, and the rest is kept. -/
theorem eq_zero_of_nibStep_zero {a : Word} (h : nibStep defaultTable a 0#4 = 0#16) : a = 0#16 := by
  have hword := BitVec.xor_eq_zero_iff.mp h
  have hlow := defaultTable_low_nibble (a.extractLsb' 12 4 ^^^ 0#4)
  rw [← hword, toNat_nibIndex_zero, BitVec.toNat_shiftLeft, Nat.shiftLeft_eq] at hlow
  have hsmall : a.toNat < 2 ^ 12 := by omega
  rw [nibStep_zero_of_small hsmall] at h
  bv_omega

theorem eq_zero_of_octStep_zero {a : Word} (h : octStep defaultTable a 0 = 0) : a = 0 :=
  eq_zero_of_nibStep_zero (eq_zero_of_nibStep_zero h)

theorem eq_zero_of_csumFrom_zeros {a : Word} {n : Nat} (h : csumFrom defaultTable a (List.replicate n 0) = 0) : a = 0 := by
  induction n generalizing a with
  | zero => exact h
  | succ n ih => exact eq_zero_of_octStep_zero (ih h)

/-- From the same accumulator two octets lead to the same only if they are equal. -/
theorem octStep_injective (a : Word) {b c : Octet} (h : octStep defaultTable a b = octStep defaultTable a c) : b = c := by
  have hzero := octStep_xor a a b c
  rw [h, BitVec.xor_self, BitVec.xor_self] at hzero
  have honly : ∀ d : Octet, octStep defaultTable 0#16 d = 0#16 → d = 0#8 := by decide
  exact BitVec.xor_eq_zero_iff.mp (honly _ hzero)

/-- The accumulators at the end of a sequence tell those at its start apart. -/
theorem csumFrom_injective {a x : Word} {s : List Octet} (h : csumFrom defaultTable a s = csumFrom defaultTable x s) :
    a = x := by
  have hsum := csumFrom_xor x (x ^^^ a) s
  rw [← BitVec.xor_assoc, BitVec.xor_self, BitVec.zero_xor, h] at hsum
  have hzero := eq_zero_of_csumFrom_zeros (BitVec.xor_right_inj _ |>.mp (hsum.symm.trans BitVec.xor_zero.symm))
  exact (BitVec.xor_eq_zero_iff.mp hzero).symm

/-- Settles O16: the octets after the damaged one keep the difference that it makes. -/
theorem defaultChecksumDetectsOneOctet : Obligations.DefaultChecksumDetectsOneOctet := by
  intro pre post b c hne h
  rw [csum_eq_csumFrom, csum_eq_csumFrom, csumFrom_append, csumFrom_append, csumFrom_cons, csumFrom_cons] at h
  exact hne (octStep_injective _ (csumFrom_injective h))

end Sys2Proof.Machine
end

section
/-! SUPPORT. The parser on sequences that end in their own checksum (`43_frame_parse.md` R90, R102): every built frame is one,
and with `RX_HDR = 3` so are shorter ones. -/

namespace Sys2Proof.Machine

section Summed
variable {cfg : Config} {body : List Octet}

theorem length_append_w2b (w : Word) : (body ++ w2b w).length = body.length + 2 := List.length_append

/-- The last two octets are the checksum put there, and those before them are the body. -/
theorem sumFits_append_csum : SumFits cfg (body ++ w2b (csum cfg.table body)) := by
  have htake : (body ++ w2b (csum cfg.table body)).take body.length = body := List.take_left
  have hlow : octetAt (body ++ w2b (csum cfg.table body)) body.length = (csum cfg.table body).extractLsb' 0 8 := by
    simp [octetAt, w2b]
  have hhigh : octetAt (body ++ w2b (csum cfg.table body)) (body.length + 1) = (csum cfg.table body).extractLsb' 8 8 := by
    simp [octetAt, w2b]
  rw [SumFits, length_append_w2b, Nat.add_sub_cancel, htake, hlow, Nat.add_sub_assoc (by decide), hhigh]
  exact (b2w_of_w2b_eq rfl).symm

/-- A sequence that declares its length and ends in its checksum is accepted, with what stands between header and checksum. -/
theorem parse_append_csum (hlen : LengthFits cfg (body ++ w2b (csum cfg.table body))) :
    parse cfg (body ++ w2b (csum cfg.table body)) =
      .ok (octetAt (body ++ w2b (csum cfg.table body)) 0, body.drop (hdrSize cfg.rxHdr)) := by
  rw [parse_of_fits hlen sumFits_append_csum, frameData, length_append_w2b, Nat.add_sub_cancel, List.take_left]

end Summed

theorem hdrSize_le_five (hdr : RxHdr) : hdrSize hdr ≤ 5 := by cases hdr <;> decide

/-- A built frame declares its length, which is more than any header and a checksum (R80). -/
theorem lengthFits_build (cfg : Config) (opc : Octet) (pin : Word) {data : List Octet} (hdata : data.length ≤ 65528) :
    LengthFits cfg (build cfg.table opc pin data) := by
  have hhdr := hdrSize_le_five cfg.rxHdr
  rw [LengthFits, toNat_build_length _ _ _ _ hdata, length_build]
  exact ⟨by omega, rfl⟩

theorem parse_build (cfg : Config) (opc : Octet) (pin : Word) {data : List Octet} (hdata : data.length ≤ 65528) :
    parse cfg (build cfg.table opc pin data) = .ok (opc, (frameBody opc pin data).drop (hdrSize cfg.rxHdr)) :=
  parse_append_csum (lengthFits_build cfg opc pin hdata)

/-- The body of a sequence that has no pin: opcode, length and data, as `RX_HDR = 3` expects them. -/
def shortBody (opc : Octet) (data : List Octet) : List Octet := [opc] ++ w2b (BitVec.ofNat 16 (5 + data.length)) ++ data

theorem length_shortBody (opc : Octet) (data : List Octet) : (shortBody opc data).length = 3 + data.length := by
  simp [shortBody, w2b]; omega

theorem parse_short {cfg : Config} (hhdr : cfg.rxHdr = .three) (opc : Octet) {data : List Octet} (hdata : data.length ≤ 1) :
    parse cfg (shortBody opc data ++ w2b (csum cfg.table (shortBody opc data))) = .ok (opc, data) := by
  have hfield : b2w (octetAt (shortBody opc data ++ w2b (csum cfg.table (shortBody opc data))) 1)
      (octetAt (shortBody opc data ++ w2b (csum cfg.table (shortBody opc data))) 2) = BitVec.ofNat 16 (5 + data.length) :=
    b2w_of_w2b_eq rfl
  have hlen : LengthFits cfg (shortBody opc data ++ w2b (csum cfg.table (shortBody opc data))) := by
    rw [LengthFits, hfield, length_append_w2b, length_shortBody, hhdr, hdrSize, BitVec.toNat_ofNat]
    omega
  rw [parse_append_csum hlen, hhdr]
  rfl

/-- A built frame has at least seven octets (R80). -/
theorem build_ne_short (table : Vector Word 16) (opc opc' : Octet) (pin : Word) (data : List Octet) {data' : List Octet}
    (hdata : data'.length ≤ 1) (sum : Word) : build table opc pin data ≠ shortBody opc' data' ++ w2b sum := by
  intro h
  have hlen := congrArg List.length h
  rw [length_build, length_append_w2b, length_shortBody] at hlen
  omega

/-- Settles O35: a built frame declares its length and ends in its checksum, and with `RX_HDR = 3` its pin is taken for data;
the two sequences too short for a pin do so too. -/
theorem parseAcceptsEveryBuild : Obligations.ParseAcceptsEveryBuild := by
  refine fun cfg opc => ⟨fun pin data hdata => ?_, fun hhdr body hbody => ?_⟩
  · rw [parse_build cfg opc pin hdata]
    cases cfg.rxHdr <;> rfl
  · have hshort : body.length ≤ 1 := by
      obtain rfl | rfl : body = [] ∨ body = [0x00] := by simpa using hbody
      · decide
      · decide
    exact ⟨parse_short hhdr opc hshort, fun opc' pin' data' => build_ne_short _ opc' opc pin' data' hshort _⟩

end Sys2Proof.Machine
end
